-- ==== Sys2Proof/Word.lean ====
section
/-! DEFINITION. The word types: the byte of a frame or of a probe block, and the numbers of the yard's objects. -/

namespace Sys2Proof

/-- A byte of a frame, of a probe block or of a probe character. -/
abbrev Byte := BitVec 8

/-- Compartment record: value `i` stands for table index `i + 1` (00_scope, "Numbering of yard objects"). -/
abbrev Comp := Fin 96

/-- Tanker slot: value `i` stands for slot `i + 1`. -/
abbrev Tanker := Fin 16

/-- Bay: value `i` stands for bay `i + 1`. -/
abbrev Bay := Fin 4

/-- Wash channel: value `i` stands for channel `i + 1`. -/
abbrev Chan := Fin 8

/-- Recipe slot: value `i` stands for slot `i + 1`. -/
abbrev RecipeSlot := Fin 15

/-- Cargo class 0..31, as numbered by the manual (R27). -/
abbrev CargoClass := Fin 32

/-- Probe line: 0 is line PA, 1 is line PB. -/
abbrev Line := Fin 2

/-- Fill lane: 0 is L1, 1 is L2. -/
abbrev Lane := Fin 2

/-- Station port P0..P5. -/
abbrev Port := Fin 6

end Sys2Proof
end

