-- ==== Sys2Proof/Syntax.lean ====
section
/-! DEFINITION. The commands of the block: one constructor of `Instr` for each row of spec/opcode_table.json, with its operands. -/

namespace Sys2Proof

/-- The operands of a request row: the port its frame arrives on, its tag and its payload (R178, R187). -/
structure Request where
  port : Port
  tag : Byte
  payload : List Byte
  deriving DecidableEq, Repr

/-- A character as a station port receives it (R177): its value, and whether its stop bit was found low. -/
structure PortChar where
  value : Byte
  framingError : Bool
  deriving DecidableEq, Repr

/-- Why a port drops a frame it was receiving (R177), the gap aside. -/
inductive DropCause where
  | badLength
  | framingError
  | crcMismatch
  deriving DecidableEq, Repr

/-- The straps as they read at the release of the reset (R57, R176): `heads` high is a two-head bay. -/
structure Straps where
  heads : Vector Bool 4
  portRate : Fin 4
  deriving DecidableEq, Repr

/-- A character received on PDAT (R126): bit i of `wire` is the data bit that came i-th, and `parity` its parity bit. -/
structure ProbeChar where
  wire : Byte
  parity : Bool
  deriving DecidableEq, Repr

/-- How a drop of DISCHARGE_PERMIT meets the channels: `order` is the order in which they take it (R83; log 14), and `met` names those
whose pass end came together with it and was taken first (R99; log 30). -/
structure PermitDrop where
  order : List Chan
  met : List Chan
  deriving DecidableEq, Repr

/-- What can reach the configuration store between two readings of one request (R34): a write of a matrix row or of a limit entry, or the
end of an answer, after which a port takes its next frame (R178). -/
inductive Between where
  | writeMatrixRow (r : Request)
  | writeLimits (r : Request)
  | answerSent (p : Port)
  deriving DecidableEq, Repr

/-- A request that reads several cells or entries, each at its own moment: the n-th list of `between` comes just before its n-th
reading (R34; log 31). -/
structure ReadingRequest where
  request : Request
  between : List (List Between)
  deriving DecidableEq, Repr

/-- The commands, in the order of spec/opcode_table.json. Operands that a row does not have settle what the manual leaves to the moment:
`refreshFirst` of a second tick (R109; log 11), what comes between the readings of a BOOK or a PARK (R34; log 31),
and how a permit drop meets the channels (logs 14 and 30). -/
inductive Instr where
  | book (r : ReadingRequest)
  | setNextClass (r : Request)
  | dispose (r : Request)
  | withdraw (r : Request)
  | depart (r : Request)
  | takeDeparture (r : Request)
  | readCompartment (r : Request)
  | readTanker (r : Request)
  | writeMatrixRow (r : Request)
  | readMatrixRow (r : Request)
  | writeLimits (r : Request)
  | readLimits (r : Request)
  | openYard (r : Request)
  | clearStaging (r : Request)
  | writeStagingStep (r : Request)
  | setStagingRounds (r : Request)
  | loadStaging (r : Request)
  | readStaging (r : Request)
  | commitRecipe (r : Request)
  | eraseRecipe (r : Request)
  | readRecipe (r : Request)
  | park (r : ReadingRequest)
  | unpark (r : Request)
  | expedite (r : Request)
  | requestDispatch (r : Request)
  | dispatchAttempt (b : Bay)
  | cancelBinding (r : Request)
  | readBay (r : Request)
  | startRun (r : Request)
  | startRehearsal (r : Request)
  | abortRun (r : Request)
  | clearFault (r : Request)
  | serviceEnter (r : Request)
  | serviceLatch (r : Request)
  | serviceClaim (r : Request)
  | serviceRelease (r : Request)
  | serviceExit (r : Request)
  | channelStatus (r : Request)
  | setHotCapacity (r : Request)
  | setTokenAllowance (r : Request)
  | setPriorityScheme (r : Request)
  | readArbiter (r : Request)
  | lineStatus (r : Request)
  | inspect (r : Request)
  | cancelInspect (r : Request)
  | readClock (r : Request)
  | authorizeFill (r : Request)
  | stopFill (r : Request)
  | laneStatus (r : Request)
  | fetchNotice (r : Request)
  | setNoticeMask (r : Request)
  | portStatus (r : Request)
  | setYard (r : Request)
  | readYard (r : Request)
  | yardReset (r : Request)
  | badKindRequest (kind : Byte) (r : Request)
  | powerOnReset (straps : Straps)
  | frameDropped (p : Port) (cause : DropCause)
  | gapTimeout (p : Port)
  | frameOverrun (p : Port)
  | answerSent (p : Port)
  | secondTick (refreshFirst : Bool)
  | minuteTick
  | refresh
  | passTimerExpiry (c : Chan)
  | runningTimeExpiry (c : Chan)
  | flowMeterPulse (c : Chan)
  | guardExpiry (c : Chan)
  | dischargePermitDrop (drop : PermitDrop)
  | dischargePermitReturn
  | pauseLimitExpiry (c : Chan)
  | headInDrop (c : Chan)
  | headInRise (c : Chan)
  | drainDownExpiry (c : Chan)
  | pdockChange (l : Line) (docked : Bool)
  | dockDebounceExpiry (l : Line)
  | powerUpExpiry (l : Line)
  | resetLengthExpiry (l : Line)
  | syncTimeout (l : Line)
  | openLimitExpiry (l : Line)
  | probeCharacterReceived (l : Line) (ch : ProbeChar)
  | openingReply (l : Line)
  | blockSendStart (l : Line)
  | characterSent (l : Line) (errorSignal : Bool)
  | blockWaitExpiry (l : Line)
  | charWaitExpiry (l : Line)
  | blockReceived (l : Line)
  | offTimerExpiry (l : Line)
  | laneMeterPulse (l : Lane)
  | noFlowExpiry (l : Lane)
  | armDrop (l : Lane)
  | armRise (l : Lane)
  | settleExpiry (l : Lane)
  | portCharacterReceived (p : Port) (ch : PortChar)
  | resetPinAsserted
  deriving DecidableEq, Repr

end Sys2Proof
end

