-- ==== Sys2Proof/Config.lean ====
section
/-! DEFINITION. What the part fixes once and for all: its clock, its capacities and its moduli. The manual leaves no value
free that a step of the part computes, so this file holds no opaque constant. -/

namespace Sys2Proof.Config

/-- Periods of the 16.000 MHz reference clock in one second (R154). -/
def periodsPerSecond : Nat := 16000000

/-- Second ticks in one minute (R154). -/
def secondsPerMinute : Nat := 60

/-- The yard minute count is 24 bits wide (00_scope "Yard clock", R154, R155). -/
def minuteModulus : Nat := 16777216

/-- A minute is reached when the difference modulo 2^24 is at most this (R155). -/
def minuteReach : Nat := 8388607

/-- Places in the departure queue (R20). -/
def departureCapacity : Nat := 32

/-- Fixed capacity of the steam generator (R102). -/
def steamCapacity : Nat := 1

/-- Fixed capacity of the detergent dosers (R102). -/
def doserCapacity : Nat := 2

/-- Longest request payload in bytes (R187). -/
def maxRequestPayload : Nat := 58

/-- Where the port counters stop (R175, R177). -/
def counterStop : Nat := 255

/-- Where the counting time, the meter counts and the lane counters stop (R75, R161, R175). -/
def countStop : Nat := 65535

/-- A port drops an incomplete frame when its gap timer passes this many milliseconds (R177). -/
def gapLimit : Nat := 50

end Sys2Proof.Config
end

