-- ==== Sys2Proof/Machine/Settings.lean ====
section
/-! DEFINITION. The 23 yard settings of R185: identifiers, ranges and power-on values. -/

namespace Sys2Proof.Machine

/-- The yard settings, in the order of their identifiers 1..23 (R185). -/
inductive Setting where
  | pauseLimit | drainDownTime | skipLimit | refreshPeriod | dockDebounce | pclkDivider
  | powerUpTime | resetLength | syncTimeout | openLimit | powerOffTime | blockGuard
  | blockWait | charWait | maxSpeedPA | maxSpeedPB | parityInvertPA | parityInvertPB
  | samples | calLimit | validity | noFlowTime | settleTime
  deriving DecidableEq, Repr

/-- The settings in identifier order (R185). -/
def Setting.all : List Setting :=
  [.pauseLimit, .drainDownTime, .skipLimit, .refreshPeriod, .dockDebounce, .pclkDivider,
   .powerUpTime, .resetLength, .syncTimeout, .openLimit, .powerOffTime, .blockGuard,
   .blockWait, .charWait, .maxSpeedPA, .maxSpeedPB, .parityInvertPA, .parityInvertPB,
   .samples, .calLimit, .validity, .noFlowTime, .settleTime]

/-- Where a setting stands in the store: its identifier less one (R185). -/
def Setting.index : Setting → Fin 23
  | .pauseLimit => 0 | .drainDownTime => 1 | .skipLimit => 2 | .refreshPeriod => 3
  | .dockDebounce => 4 | .pclkDivider => 5 | .powerUpTime => 6 | .resetLength => 7
  | .syncTimeout => 8 | .openLimit => 9 | .powerOffTime => 10 | .blockGuard => 11
  | .blockWait => 12 | .charWait => 13 | .maxSpeedPA => 14 | .maxSpeedPB => 15
  | .parityInvertPA => 16 | .parityInvertPB => 17 | .samples => 18 | .calLimit => 19
  | .validity => 20 | .noFlowTime => 21 | .settleTime => 22

/-- The setting that an identifier names; none outside 1..23 (R185). -/
def Setting.ofId? (n : Nat) : Option Setting := if n = 0 then none else Setting.all[n - 1]?

/-- Smallest and largest value of each setting (R185). -/
def Setting.range : Setting → Nat × Nat
  | .pauseLimit => (10, 1800)
  | .drainDownTime => (0, 120)
  | .skipLimit => (1, 15)
  | .refreshPeriod => (60, 3600)
  | .dockDebounce => (10, 250)
  | .pclkDivider => (4, 64)
  | .powerUpTime => (1, 100)
  | .resetLength => (50, 2000)
  | .syncTimeout => (10000, 60000)
  | .openLimit => (1000, 20000)
  | .powerOffTime => (1, 250)
  | .blockGuard => (16, 255)
  | .blockWait => (100, 100000)
  | .charWait => (12, 1000)
  | .maxSpeedPA => (1, 7)
  | .maxSpeedPB => (1, 7)
  | .parityInvertPA => (0, 1)
  | .parityInvertPB => (0, 1)
  | .samples => (1, 3)
  | .calLimit => (1, 730)
  | .validity => (30, 720)
  | .noFlowTime => (5, 120)
  | .settleTime => (1, 60)

/-- A value lies in the range of a setting (R185). -/
def Setting.inRange (x : Setting) (v : Nat) : Bool := decide (x.range.1 ≤ v ∧ v ≤ x.range.2)

/-- The power-on value of each setting (R185). -/
def Setting.powerOn : Setting → Nat
  | .pauseLimit => 300
  | .drainDownTime => 20
  | .skipLimit => 4
  | .refreshPeriod => 600
  | .dockDebounce => 50
  | .pclkDivider => 4
  | .powerUpTime => 10
  | .resetLength => 200
  | .syncTimeout => 40000
  | .openLimit => 9600
  | .powerOffTime => 20
  | .blockGuard => 24
  | .blockWait => 16000
  | .charWait => 60
  | .maxSpeedPA => 4
  | .maxSpeedPB => 4
  | .parityInvertPA => 0
  | .parityInvertPB => 0
  | .samples => 2
  | .calLimit => 180
  | .validity => 240
  | .noFlowTime => 20
  | .settleTime => 5

end Sys2Proof.Machine
end

