-- ==== Sys2Proof/Machine/State.lean ====
section
/-! DEFINITION. The state of the part: every piece of state the manual gives it, as plain data, and its values after power-on. -/

namespace Sys2Proof.Machine

/-! ## Compartment table and tanker register (chapter 1) -/

/-- The eleven lifecycle states of a compartment record (R1). -/
inductive Lifecycle where
  | free | booked | queued | washing | inspectWait | inspecting | cleared | filling | filled
  | held | withdrawn
  deriving DecidableEq, Repr

/-- The reasons of a channel in STOPPING or FAULT (R75). -/
inductive Reason where
  | flowShort | dischargeBlocked | dischargeLost | headLifted | claimUnfit | partnerFault
  | abortedByBay
  deriving DecidableEq, Repr

/-- Hold reasons (R15); a wash fault carries the channel fault reason as its sub-reason. -/
inductive HoldReason where
  | washAborted
  | washFault (sub : Reason)
  | inspectFail
  | probeFail
  | certExpired
  | interrupted
  deriving DecidableEq, Repr

/-- The measures of an inspection, in the order of the failed list (R1). -/
inductive Measure where
  | film | turbidity | conductivity | depth
  deriving DecidableEq, Repr

/-- Four values, one for each measure: readings, worst readings or maxima. -/
structure Measures where
  film : Nat
  turbidity : Nat
  conductivity : Nat
  depth : Nat
  deriving DecidableEq, Repr

/-- The readings of the last judged inspection, with the failed list (R1). -/
structure Readings where
  worst : Measures
  failed : List Measure
  deriving DecidableEq, Repr

/-- A certificate (R156). -/
structure Certificate where
  number : Nat
  issue : Nat
  clearedClass : CargoClass
  expiry : Nat
  deriving DecidableEq, Repr

/-- Fill outcomes and close causes (R160). -/
inductive FillOutcome where
  | complete | stopped | noFlow | armLost | interrupted
  deriving DecidableEq, Repr

/-- A fill record (R1, R14). -/
structure FillRecord where
  lane : Lane
  product : CargoClass
  authorized : Nat
  metered : Nat
  outcome : FillOutcome
  deriving DecidableEq, Repr

/-- The wash plan and its rounds done, present together (R1). -/
structure Plan where
  slot : RecipeSlot
  roundsDone : Nat
  deriving DecidableEq, Repr

/-- The binding of a record: one channel, or the two channels of one bay (R1). -/
inductive Binding where
  | single (c : Chan)
  | pair (b : Bay)
  deriving DecidableEq, Repr

/-- A compartment record (R1). In a FREE record the booking fields are not carried and are stored as 0. -/
structure CompartmentRecord where
  state : Lifecycle
  tanker : Tanker
  position : Nat
  capacity : Nat
  hatches : Nat
  lastClass : CargoClass
  nextClass : Option CargoClass
  plan : Option Plan
  expedite : Bool
  binding : Option Binding
  tries : Nat
  readings : Option Readings
  hold : Option HoldReason
  cert : Option Certificate
  fill : Option FillRecord
  deriving DecidableEq, Repr

/-- A FREE record: expedite no, tries 0, every other field absent (R1). -/
def CompartmentRecord.freed : CompartmentRecord :=
  { state := .free, tanker := 0, position := 0, capacity := 0, hatches := 0, lastClass := 0,
    nextClass := none, plan := none, expedite := false, binding := none, tries := 0,
    readings := none, hold := none, cert := none, fill := none }

/-- What a non-FREE tanker entry carries (R2); `bay` is present when the entry is PARKED. -/
structure TankerData where
  fleet : Nat
  compartments : List Comp
  arrival : Nat
  bay : Option Bay
  deriving DecidableEq, Repr

/-- A tanker entry: none is FREE, a bay makes it PARKED, no bay PRESENT (R2). -/
abbrev TankerEntry := Option TankerData

/-- A departure record (R19). -/
structure Departure where
  fleet : Nat
  position : Nat
  lastClass : CargoClass
  finalState : Lifecycle
  cert : Option Certificate
  fill : Option FillRecord
  minute : Nat
  deriving DecidableEq, Repr

/-! ## Configuration store (chapters 2 and 3) -/

/-- A cell of the compatibility matrix (R28). -/
inductive Cell where
  | none
  | slot (r : RecipeSlot)
  | barred
  deriving DecidableEq, Repr

/-- A limit entry (R35). -/
structure LimitEntry where
  maxima : Measures
  inspectionRequired : Bool
  deriving DecidableEq, Repr

/-- A limit entry at power-on (R35). -/
def LimitEntry.powerOn : LimitEntry := { maxima := ⟨0, 0, 0, 0⟩, inspectionRequired := true }

/-- The supply of a step (R41). -/
inductive Supply where
  | none | cold | hot | steam
  deriving DecidableEq, Repr

/-- The mode of a step (R41). -/
inductive StepMode where
  | timed | metered | demand
  deriving DecidableEq, Repr

/-- A recipe step (R41). -/
structure RecipeStep where
  supply : Supply
  dose : Bool
  drain : Bool
  hotUnits : Nat
  mode : StepMode
  amount : Nat
  extraPasses : Nat
  guard : Nat
  deriving DecidableEq, Repr

/-- The recipe of a DEFINED slot (R40). -/
structure Recipe where
  rounds : Nat
  steps : List RecipeStep
  deriving DecidableEq, Repr

/-- The staging buffer (R45); a position that is none is unwritten. -/
structure Staging where
  stepCount : Nat
  rounds : Nat
  positions : Vector (Option RecipeStep) 12
  deriving DecidableEq, Repr

/-- The empty staging buffer (R45). -/
def Staging.empty : Staging := { stepCount := 0, rounds := 1, positions := Vector.replicate 12 none }

/-! ## Bay dispatcher (chapter 4) -/

/-- A bay: its fitting, its parked tanker, its queue front first (R57, R58, R63), and the dispatch attempts that the events of
R66 have caused and that have not been made yet. -/
structure BayState where
  twoHead : Bool
  parked : Option Tanker
  queue : List Comp
  owed : Nat
  deriving DecidableEq, Repr

/-! ## Wash channels (chapter 5) -/

/-- The nine channel states (R75). -/
inductive ChannelState where
  | unfitted | idle | bound | claiming | running | paused | stopping | fault | service
  deriving DecidableEq, Repr

/-- The role of a binding (R75). -/
inductive Role where
  | single | lead | partner
  deriving DecidableEq, Repr

/-- The binding of a channel (R75). -/
structure ChannelBinding where
  comp : Comp
  role : Role
  deriving DecidableEq, Repr

/-- The run context (R75); for a pair the lead holds it (R90). `step` counts from 1. -/
structure RunContext where
  slot : RecipeSlot
  step : Nat
  passCounter : Nat
  rounds : Nat
  passTimer : Nat
  runningTime : Nat
  deriving DecidableEq, Repr

/-- One value for each valve line: open or closed. -/
structure Lines where
  cold : Bool
  hot : Bool
  steam : Bool
  dose : Bool
  drain : Bool
  deriving DecidableEq, Repr

/-- Every line closed. -/
def Lines.closed : Lines := ⟨false, false, false, false, false⟩

/-- A wash channel (R75). `drainTime` is DRAIN_DOWN_TIME as read at entry to STOPPING (R88). `pauseDue` says that the second
tick last taken found the pause timer at the pause limit (R84). -/
structure WashChannel where
  state : ChannelState
  binding : Option ChannelBinding
  rehearsal : Option RecipeSlot
  run : Option RunContext
  pauseTimer : Nat
  pauseDue : Bool
  drainTimer : Nat
  drainTime : Nat
  meter : Nat
  headDone : Bool
  reason : Option Reason
  latch : Lines
  headIn : Bool
  deriving DecidableEq, Repr

/-- A channel after a reset (R101), with its HEAD_IN level, which is an input. -/
def WashChannel.afterReset (state : ChannelState) (headIn : Bool) : WashChannel :=
  { state := state, binding := none, rehearsal := none, run := none, pauseTimer := 0,
    pauseDue := false, drainTimer := 0, drainTime := 0, meter := 0, headDone := false,
    reason := none, latch := Lines.closed, headIn := headIn }

/-! ## Plant arbiter (chapter 6) -/

/-- Units of the three plant resources (R102). -/
structure Units where
  hot : Nat
  steam : Nat
  doser : Nat
  deriving DecidableEq, Repr

/-- The kind of a claim (R104). -/
inductive ClaimKind where
  | run | rehearsal | service
  deriving DecidableEq, Repr

/-- A waiting claim (R104); `pair` marks the combined claim of a paired run. -/
structure Claim where
  kind : ClaimKind
  units : Units
  skips : Nat
  anchored : Bool
  pair : Bool
  deriving DecidableEq, Repr

/-- A grant (R105). -/
structure Grant where
  kind : ClaimKind
  units : Units
  pair : Bool
  deriving DecidableEq, Repr

/-- Token allowance and remaining tokens of a channel (R107). -/
structure Tokens where
  allowance : Nat
  remaining : Nat
  deriving DecidableEq, Repr

/-- Priority schemes (R111). -/
inductive Scheme where
  | fixed | rotating
  deriving DecidableEq, Repr

/-- The plant arbiter (R102 to R111). Claims and grants stand under their channel, the lead for a pair. `refreshDue` says that
the second tick last taken found the refresh timer at REFRESH_PERIOD (R109). -/
structure Plant where
  hotCapacity : Nat
  scheme : Scheme
  priority : List Chan
  tokens : Vector Tokens 8
  claims : Vector (Option Claim) 8
  grants : Vector (Option Grant) 8
  refreshTimer : Nat
  refreshDue : Bool
  deriving DecidableEq, Repr

/-- The priority order 1..8 (R111). -/
def Plant.startOrder : List Chan := [0, 1, 2, 3, 4, 5, 6, 7]

/-- The arbiter at power-on (R119). -/
def Plant.powerOn : Plant :=
  { hotCapacity := 4, scheme := .fixed, priority := Plant.startOrder,
    tokens := Vector.replicate 8 ⟨0, 0⟩, claims := Vector.replicate 8 none,
    grants := Vector.replicate 8 none, refreshTimer := 0, refreshDue := false }

/-! ## Probe lines and inspection unit (chapters 7 and 8) -/

/-- The ten probe line states (R120). -/
inductive LineState where
  | detached | docked | powering | resetting | opening | ready | sending | awaiting | receiving
  | closing
  deriving DecidableEq, Repr

/-- Bit orders (R120). -/
inductive BitOrder where
  | lsbFirst | msbFirst
  deriving DecidableEq, Repr

/-- Check modes (R120). -/
inductive CheckMode where
  | lrc | crc
  deriving DecidableEq, Repr

/-- The link errors, in the order of R138. -/
inductive LinkError where
  | undocked | openTimeout | badSync | openCheck | charRetry | parity | replyTimeout | waitLimit
  | blockErrors | protocol
  deriving DecidableEq, Repr

/-- Inspection outcomes, in the order of R144. -/
inductive InspectionOutcome where
  | pass | fail | calExpired | linkError | cancelled
  deriving DecidableEq, Repr

/-- A running timer of a probe line: its limit, in milliseconds or bit periods as its rule says, and the PCLK periods of one
bit period by which it counts (R125). -/
structure LineTimer where
  limit : Nat
  bitPeriod : Nat
  deriving DecidableEq, Repr

/-- The timers of a probe line; none is not running (R120). -/
structure LineTimers where
  powerUp : Option LineTimer
  reset : Option LineTimer
  sync : Option LineTimer
  opening : Option LineTimer
  charWait : Option LineTimer
  blockGuard : Option LineTimer
  blockWait : Option LineTimer
  off : Option LineTimer
  deriving DecidableEq, Repr

/-- No timer running. -/
def LineTimers.stopped : LineTimers := ⟨none, none, none, none, none, none, none, none⟩

/-- The exchange record (R120). -/
structure Exchange where
  lastBlock : List Byte
  waits : Nat
  repeats : Nat
  factor : Option Nat
  deriving DecidableEq, Repr

/-- The empty exchange record (R120). -/
def Exchange.empty : Exchange := { lastBlock := [], waits := 0, repeats := 0, factor := none }

/-- A block being sent (R133): the characters not yet sent, the one in transmission first; whether sending has begun; and the
parity bit of the transmission in progress (R127). -/
structure Sending where
  left : List Byte
  started : Bool
  parityBit : Bool
  deriving DecidableEq, Repr

/-- A probe line (R120). `pdock` is the level of the PDOCK input, `debounce` the length in milliseconds of a debounce interval
that is running (R122), `received` the bytes of the reply or block taken so far, `badLength` a received length byte that the
session does not allow (R134), `divider` the PCLK_DIVIDER read at entry to RESETTING (R121). -/
structure ProbeLine where
  state : LineState
  docked : Bool
  pdock : Bool
  debounce : Option Nat
  bound : Option Comp
  bitOrder : BitOrder
  speed : Nat
  extraGuard : Nat
  checkMode : CheckMode
  maxLength : Nat
  exchange : Exchange
  lastError : Option LinkError
  lastResult : Option InspectionOutcome
  timers : LineTimers
  transmissions : Nat
  badReceptions : Nat
  received : List Byte
  badLength : Bool
  sending : Option Sending
  divider : Nat
  deriving DecidableEq, Repr

/-- A probe line at power-on (R120, R143), with its PDOCK level; a docked level starts a debounce interval at once (R122). -/
def ProbeLine.powerOn (pdock : Bool) : ProbeLine :=
  { state := .detached, docked := false, pdock := pdock,
    debounce := if pdock then some Setting.dockDebounce.powerOn else none,
    bound := none, bitOrder := .lsbFirst, speed := 1, extraGuard := 0, checkMode := .lrc,
    maxLength := 0, exchange := Exchange.empty, lastError := none, lastResult := none,
    timers := LineTimers.stopped, transmissions := 0, badReceptions := 0, received := [],
    badLength := false, sending := none, divider := Setting.pclkDivider.powerOn }

/-- The phase of an inspection (R144). -/
inductive Phase where
  | opening | sampling
  deriving DecidableEq, Repr

/-- An inspection context (R144). -/
structure Inspection where
  comp : Comp
  bay : Bay
  phase : Phase
  limits : Measures
  toTake : Nat
  taken : Nat
  worst : Measures
  deriving DecidableEq, Repr

/-- The yard clock (R154). `minuteDue` says that a second tick has brought the second count to its wrap and that the minute tick
it makes has not been taken yet. -/
structure Clock where
  period : Nat
  second : Nat
  minute : Nat
  minuteDue : Bool
  deriving DecidableEq, Repr

/-! ## Fill lanes (chapter 9) -/

/-- The states of a fill lane (R160). -/
inductive LaneState where
  | idle | active | settling
  deriving DecidableEq, Repr

/-- The fill context (R160). -/
structure FillContext where
  comp : Comp
  product : CargoClass
  volume : Nat
  deriving DecidableEq, Repr

/-- A fill lane (R160). `settleTime` is SETTLE_TIME as read at entry to SETTLING (R169); `noFlowDue` says that the second tick
last taken found the no-flow timer at NO_FLOW_TIME (R165); `arm` is the level of the ARM input. -/
structure FillLane where
  state : LaneState
  context : Option FillContext
  counter : Nat
  compare : Nat
  capture : Nat
  cause : Option FillOutcome
  lastOutcome : Option FillOutcome
  noFlow : Nat
  noFlowDue : Bool
  settle : Nat
  settleTime : Nat
  arm : Bool
  deriving DecidableEq, Repr

/-- A fill lane at power-on (R174), with its ARM level. -/
def FillLane.powerOn (arm : Bool) : FillLane :=
  { state := .idle, context := none, counter := 0, compare := 0, capture := 0, cause := none,
    lastOutcome := none, noFlow := 0, noFlowDue := false, settle := 0, settleTime := 0, arm := arm }

/-! ## Station ports (chapter 10) -/

/-- Receiver states (R175). -/
inductive ReceiverState where
  | seeking | length | body | check
  deriving DecidableEq, Repr

/-- The held request of a port (R175, R178); `taken` once its owner has taken it. -/
structure HeldRequest where
  kind : Byte
  tag : Byte
  payload : List Byte
  taken : Bool
  deriving DecidableEq, Repr

/-- An answer in transmission (R175, R178): its kind, its tag, and its payload with the result code first. -/
structure Answer where
  kind : Byte
  tag : Byte
  payload : List Byte
  deriving DecidableEq, Repr

/-- A notice flag: kind code and subject (R181). -/
structure Notice where
  kind : Nat
  subject : Nat
  deriving DecidableEq, Repr

/-- A station port (R175). `flags` is the set of raised notices in rising order of kind and subject; `masks` is indexed by kind
code less one, and only the kinds of the port's role are used (R181, R182). -/
structure StationPort where
  receiver : ReceiverState
  buffer : List Byte
  gapRunning : Bool
  held : Option HeldRequest
  answer : Option Answer
  gapCount : Nat
  checkCount : Nat
  lengthCount : Nat
  overrunCount : Nat
  countingTime : Nat
  flags : List Notice
  masks : Vector Bool 5
  deriving DecidableEq, Repr

/-- A station port at power-on (R176). -/
def StationPort.powerOn : StationPort :=
  { receiver := .seeking, buffer := [], gapRunning := false, held := none, answer := none,
    gapCount := 0, checkCount := 0, lengthCount := 0, overrunCount := 0, countingTime := 0,
    flags := [], masks := Vector.replicate 5 false }

/-! ## The machine -/

/-- The state of the part. `permit` is the level of DISCHARGE_PERMIT; `portRate` the sampled PORT_RATE; `resetPin` says that the
reset pin is held asserted; `pending` is the queue of commands, first in, first out. -/
structure State where
  comps : Vector CompartmentRecord 96
  tankers : Vector TankerEntry 16
  certCounter : Nat
  departures : List Departure
  matrix : Vector (Vector Cell 32) 32
  limits : Vector LimitEntry 31
  recipes : Vector (Option Recipe) 15
  staging : Staging
  settings : Vector Nat 23
  yardOpen : Bool
  bays : Vector BayState 4
  channels : Vector WashChannel 8
  permit : Bool
  plant : Plant
  lines : Vector ProbeLine 2
  inspections : Vector (Option Inspection) 2
  clock : Clock
  lanes : Vector FillLane 2
  ports : Vector StationPort 6
  portRate : Fin 4
  resetPin : Bool
  pending : List Instr
  deriving DecidableEq, Repr

/-- No fault stops the part: a request is refused by its answer, a channel fault and a link error are states. -/
inductive Fault where
  deriving DecidableEq, Repr

/-- The reasons a command could be refused by the model. -/
inductive Refusal where
  /-- Raised by `exec` for a command that has no meaning yet; no command of this model. Safe: the run stops. -/
  | notModelled (mnemonic : String)
  deriving DecidableEq, Repr

/-- The matrix at power-on: BARRED but for the diagonal of classes 1..31, which is NONE (R28). -/
def matrixPowerOn : Vector (Vector Cell 32) 32 :=
  Vector.ofFn fun row => Vector.ofFn fun col => if row = col ∧ row ≠ 0 then .none else .barred

/-- Each setting at its power-on value (R185). -/
def settingsPowerOn : Vector Nat 23 :=
  Vector.ofFn fun i => (Setting.all[i.val]?).elim 0 Setting.powerOn

/-- A channel is UNFITTED when it is head B of a one-head bay (R57, R75). -/
def fittedState (straps : Straps) (c : Chan) : ChannelState :=
  if c.val % 2 = 1 ∧ straps.heads[(⟨c.val / 2, by omega⟩ : Bay)] = false then .unfitted else .idle

/-- The part at the release of a power-on reset: every block at its power-on values (R24, R39, R56, R74, R101, R119, R143, R159,
R174, R176), the straps sampled, and the levels of the field inputs as they stand. -/
def State.powerOn (straps : Straps) (permit : Bool) (headIn : Vector Bool 8) (pdock arm : Vector Bool 2)
    (pending : List Instr) : State :=
  { comps := Vector.replicate 96 CompartmentRecord.freed
    tankers := Vector.replicate 16 none
    certCounter := 1
    departures := []
    matrix := matrixPowerOn
    limits := Vector.replicate 31 LimitEntry.powerOn
    recipes := Vector.replicate 15 none
    staging := Staging.empty
    settings := settingsPowerOn
    yardOpen := false
    bays := Vector.ofFn fun b => { twoHead := straps.heads[b], parked := none, queue := [], owed := 0 }
    channels := Vector.ofFn fun c => WashChannel.afterReset (fittedState straps c) headIn[c]
    permit := permit
    plant := Plant.powerOn
    lines := Vector.ofFn fun l => ProbeLine.powerOn pdock[l]
    inspections := Vector.replicate 2 none
    clock := { period := 0, second := 0, minute := 0, minuteDue := false }
    lanes := Vector.ofFn fun l => FillLane.powerOn arm[l]
    ports := Vector.replicate 6 StationPort.powerOn
    portRate := straps.portRate
    resetPin := false
    pending := pending }

/-- The straps in `State.reset`: every bay with two heads, PORT_RATE 00b. DESIGN CHOICE (log 8): the manual leaves them to the
board. -/
def Straps.default : Straps := { heads := Vector.replicate 4 true, portRate := 0 }

/-- The part right after a power-on reset. DESIGN CHOICE (logs 7 and 8): two-head bays, rate 00b, and every field input
deasserted. -/
def State.reset : State :=
  State.powerOn Straps.default false (Vector.replicate 8 false) (Vector.replicate 2 false)
    (Vector.replicate 2 false) []

end Sys2Proof.Machine
end

