-- ==== Sys2Proof/Machine/Ops.lean ====
section
/-! DEFINITION. The named operations over the state: one home for each read and each write, numbering, ports and channels, and the
arithmetic of plant units and yard minutes. -/

namespace Sys2Proof.Machine

open Sys2Proof (Byte Comp Tanker Bay Chan RecipeSlot CargoClass Line Lane Port)

/-! ## Tables -/

/-- The object that a number 1..k names (00_scope "Numbering of yard objects"); none outside the range. -/
def index? (k n : Nat) : Option (Fin k) := if h : 0 < n ∧ n ≤ k then some ⟨n - 1, by omega⟩ else none

/-- The number of an object: its index plus one. -/
def number {k : Nat} (i : Fin k) : Nat := i.val + 1

/-- One entry of a table replaced. -/
def put {α : Type} {n : Nat} (v : Vector α n) (i : Fin n) (x : α) : Vector α n := v.set i.val x i.isLt

namespace State

def comp (s : State) (i : Comp) : CompartmentRecord := s.comps[i]
def setComp (s : State) (i : Comp) (x : CompartmentRecord) : State := { s with comps := put s.comps i x }
def modComp (s : State) (i : Comp) (f : CompartmentRecord → CompartmentRecord) : State := s.setComp i (f (s.comp i))

def tanker (s : State) (i : Tanker) : TankerEntry := s.tankers[i]
def setTanker (s : State) (i : Tanker) (x : TankerEntry) : State := { s with tankers := put s.tankers i x }

def bay (s : State) (b : Bay) : BayState := s.bays[b]
def setBay (s : State) (b : Bay) (x : BayState) : State := { s with bays := put s.bays b x }
def modBay (s : State) (b : Bay) (f : BayState → BayState) : State := s.setBay b (f (s.bay b))

def chan (s : State) (c : Chan) : WashChannel := s.channels[c]
def setChan (s : State) (c : Chan) (x : WashChannel) : State := { s with channels := put s.channels c x }
def modChan (s : State) (c : Chan) (f : WashChannel → WashChannel) : State := s.setChan c (f (s.chan c))

def line (s : State) (l : Line) : ProbeLine := s.lines[l]
def setLine (s : State) (l : Line) (x : ProbeLine) : State := { s with lines := put s.lines l x }
def modLine (s : State) (l : Line) (f : ProbeLine → ProbeLine) : State := s.setLine l (f (s.line l))

def inspection (s : State) (l : Line) : Option Inspection := s.inspections[l]
def setInspection (s : State) (l : Line) (x : Option Inspection) : State :=
  { s with inspections := put s.inspections l x }

def lane (s : State) (l : Lane) : FillLane := s.lanes[l]
def setLane (s : State) (l : Lane) (x : FillLane) : State := { s with lanes := put s.lanes l x }
def modLane (s : State) (l : Lane) (f : FillLane → FillLane) : State := s.setLane l (f (s.lane l))

def port (s : State) (p : Port) : StationPort := s.ports[p]
def setPort (s : State) (p : Port) (x : StationPort) : State := { s with ports := put s.ports p x }
def modPort (s : State) (p : Port) (f : StationPort → StationPort) : State := s.setPort p (f (s.port p))

def setPlant (s : State) (x : Plant) : State := { s with plant := x }

/-- A yard setting as it stands (R185). -/
def setting (s : State) (x : Setting) : Nat := s.settings[x.index]

/-- The matrix cell (last class, next class) as it stands (R29). -/
def cell (s : State) (last next : CargoClass) : Cell := (s.matrix[last])[next]

/-- The recipe of a slot; none is EMPTY (R40). -/
def recipe (s : State) (r : RecipeSlot) : Option Recipe := s.recipes[r]

end State

/-- The limit entry of a class 1..31 as it stands (R35). The fall-back for class 0 or no class is not reached by a record that
an inspection or a queue-in looks at (log 24). -/
def limitEntry (s : State) (c : Option CargoClass) : LimitEntry :=
  match c with
  | none => LimitEntry.powerOn
  | some k =>
    match index? 31 k.val with
    | none => LimitEntry.powerOn
    | some i => s.limits[i]

/-! ## Ports, bays and channels -/

/-- The roles of the six ports (R175). -/
inductive PortRole where
  | office
  | bay (b : Bay)
  | fill
  deriving DecidableEq, Repr

/-- P0 is the Office port, P1..P4 the bay ports of bays 1..4, P5 the Fill port (R175). -/
def portRole (p : Port) : PortRole :=
  if p.val = 0 then .office
  else if h : 0 < p.val ∧ p.val ≤ 4 then .bay ⟨p.val - 1, by omega⟩
  else .fill

/-- The Office port. -/
def officePort : Port := 0

/-- The Fill port. -/
def fillPort : Port := 5

/-- The bay port of a bay (R175). -/
def bayPort (b : Bay) : Port := ⟨b.val + 1, by omega⟩

/-- Head A of bay b is on channel 2b-1 (R57). -/
def headA (b : Bay) : Chan := ⟨2 * b.val, by omega⟩

/-- Head B of bay b is on channel 2b (R57). -/
def headB (b : Bay) : Chan := ⟨2 * b.val + 1, by omega⟩

/-- The bay of a channel. -/
def bayOf (c : Chan) : Bay := ⟨c.val / 2, by omega⟩

/-- The head of a channel in its bay: A is 1, B is 2 (R181). -/
def headNumber (c : Chan) : Nat := c.val % 2 + 1

/-- A bay port names another bay's channel (R76). -/
def foreignChannel (p : Port) (c : Chan) : Bool :=
  match portRole p with
  | .bay b => decide (bayOf c ≠ b)
  | .office | .fill => false

/-! ## Minutes and counts -/

/-- A minute value is reached at a minute count (R155). -/
def minuteReached (m now : Nat) : Bool :=
  decide ((now + Config.minuteModulus - m % Config.minuteModulus) % Config.minuteModulus ≤ Config.minuteReach)

/-- A count that rises by one and stops at a limit. -/
def countUp (limit n : Nat) : Nat := if n < limit then n + 1 else n

/-! ## Plant units (R43, R102, R104) -/

def Units.zero : Units := ⟨0, 0, 0⟩
def Units.add (x y : Units) : Units := ⟨x.hot + y.hot, x.steam + y.steam, x.doser + y.doser⟩
def Units.sub (x y : Units) : Units := ⟨x.hot - y.hot, x.steam - y.steam, x.doser - y.doser⟩
def Units.double (x : Units) : Units := ⟨2 * x.hot, 2 * x.steam, 2 * x.doser⟩

/-- Every unit asked for is there. -/
def Units.fits (x y : Units) : Bool := decide (x.hot ≤ y.hot ∧ x.steam ≤ y.steam ∧ x.doser ≤ y.doser)

/-- No resource is asked for by both. -/
def Units.disjoint (x y : Units) : Bool :=
  decide ((x.hot = 0 ∨ y.hot = 0) ∧ (x.steam = 0 ∨ y.steam = 0) ∧ (x.doser = 0 ∨ y.doser = 0))

/-- The claim of a step (R43). -/
def stepClaim (x : RecipeStep) : Units :=
  { hot := if x.supply = .hot then x.hotUnits else 0
    steam := if x.supply = .steam then 1 else 0
    doser := if x.dose then 1 else 0 }

/-! ## Outcomes -/

/-- The outcome type of a step of this machine. -/
abbrev Result := Host.Outcome State Fault Refusal

/-- An event taken whole by a part that is not held in reset. While the reset pin is held asserted no event changes the state
(R176; DESIGN CHOICE, log 22: the release gives every block its power-on values whatever happened before it). -/
def live (s : State) (f : State → State) : Result := .next (if s.resetPin then s else f s)

end Sys2Proof.Machine
end

