-- ==== Sys2Proof/Machine/Arbiter.lean ====
section
/-! DEFINITION. The plant arbiter on its own state: capacities, standing, pass order, the arbitration pass, skips and the anchor,
rotation, tokens (R102 to R114). -/

namespace Sys2Proof.Machine

namespace Plant

/-- The capacities (R102). -/
def capacity (p : Plant) : Units := ⟨p.hotCapacity, Config.steamCapacity, Config.doserCapacity⟩

/-- The units of the grant that stands under a channel. -/
def grantUnits (p : Plant) (c : Chan) : Units := (p.grants[c]).elim Units.zero fun g => g.units

/-- The units of the claim that waits under a channel. -/
def claimUnits (p : Plant) (c : Chan) : Units := (p.claims[c]).elim Units.zero fun k => k.units

/-- The units held in grants across all channels (R102). -/
def granted (p : Plant) : Units := (List.finRange 8).foldl (fun u c => u.add (p.grantUnits c)) Units.zero

/-- The free units (R102). -/
def free (p : Plant) : Units := p.capacity.sub p.granted

def setClaim (p : Plant) (c : Chan) (x : Option Claim) : Plant := { p with claims := put p.claims c x }
def setGrant (p : Plant) (c : Chan) (x : Option Grant) : Plant := { p with grants := put p.grants c x }

/-- A channel is exhausted while its allowance is not 0 and its remaining tokens are 0 (R110). -/
def exhausted (p : Plant) (c : Chan) : Bool := decide ((p.tokens[c]).allowance ≠ 0 ∧ (p.tokens[c]).remaining = 0)

/-- The pass order of the waiting claims: those in standing, then those exhausted, each in priority order (R112). -/
def passOrder (p : Plant) : List Chan :=
  let waiting := p.priority.filter fun c => (p.claims[c]).isSome
  waiting.filter (fun c => !p.exhausted c) ++ waiting.filter fun c => p.exhausted c

/-- The claim of a channel waits and is anchored (R114). -/
def isAnchored (p : Plant) (c : Chan) : Bool := (p.claims[c]).any fun k => k.anchored

/-- What a pass has set aside so far: the units still free, and the channels granted, oldest grant first. -/
structure Passing where
  free : Units
  granted : List Chan
  deriving DecidableEq, Repr

/-- One waiting claim is considered: it is granted when its units are free and, while an anchored claim still waits, it asks for
no resource of that claim (R113). -/
def consider (p : Plant) (anchor : Option Units) (x : Passing) (c : Chan) : Passing :=
  match p.claims[c] with
  | none => x
  | some k =>
    if k.units.fits x.free && anchor.all k.units.disjoint then ⟨x.free.sub k.units, x.granted ++ [c]⟩ else x

/-- The channels that a pass grants, in the order of the grants (R113). -/
def passGrants (p : Plant) : List Chan :=
  let start : Passing := ⟨p.free, []⟩
  match p.passOrder.find? p.isAnchored with
  | none => (p.passOrder.foldl (p.consider none) start).granted
  | some a =>
    let first := p.consider none start a
    let rest := p.passOrder.filter fun c => decide (c ≠ a)
    if a ∈ first.granted then (rest.foldl (p.consider none) first).granted
    else (rest.foldl (p.consider (some (p.claimUnits a))) first).granted

/-- The channel beside a lead, in the same bay (R90). -/
def partnerOf (c : Chan) : Chan := headB (bayOf c)

/-- A grant moves its channel to the lowest place; a pair's grant moves the partner, head B, lowest and the lead, head A, directly
above it (R90, R111). -/
def rotate (p : Plant) (c : Chan) (pair : Bool) : Plant :=
  match p.scheme with
  | .fixed => p
  | .rotating =>
    if pair then
      let heads := [headA (bayOf c), headB (bayOf c)]
      { p with priority := (p.priority.filter fun x => decide (x ∉ heads)) ++ heads }
    else { p with priority := (p.priority.filter fun x => decide (x ≠ c)) ++ [c] }

/-- A whole claim is granted: it leaves the waiting claims and the channel holds its units (R105). -/
def grant (p : Plant) (c : Chan) : Plant :=
  match p.claims[c] with
  | none => p
  | some k => ((p.setClaim c none).setGrant c (some ⟨k.kind, k.units, k.pair⟩)).rotate c k.pair

/-- A claim behind this one in the pass order was granted (R114). -/
def servedBehind (order granted : List Chan) (c : Chan) : Bool :=
  ((order.dropWhile fun x => decide (x ≠ c)).drop 1).any fun x => decide (x ∈ granted)

/-- A claim that waited through the pass, the anchored one aside, gains a skip when one behind it was served, up to the limit; a
count above a lowered limit is kept (R114). -/
def countSkip (limit : Nat) (order granted : List Chan) (p : Plant) (c : Chan) : Plant :=
  match p.claims[c] with
  | none => p
  | some k =>
    if !k.anchored && servedBehind order granted c && decide (k.skips < limit) then
      p.setClaim c (some { k with skips := k.skips + 1 })
    else p

/-- A waiting claim stands at or above the skip limit. -/
def atLimit (limit : Nat) (p : Plant) (c : Chan) : Bool := (p.claims[c]).any fun k => decide (limit ≤ k.skips)

/-- With no claim anchored at the end of a pass, the first waiting claim in the pass order at the limit becomes anchored, also where the
anchored claim has been granted in that same pass (R114; DESIGN CHOICE, log 33). -/
def chooseAnchor (limit : Nat) (order : List Chan) (p : Plant) : Plant :=
  if order.any p.isAnchored then p
  else
    match order.find? (p.atLimit limit) with
    | none => p
    | some c =>
      match p.claims[c] with
      | none => p
      | some k => p.setClaim c (some { k with anchored := true })

/-- An arbitration pass: the arbiter after it, and the channels granted in it, in the order of the grants (R112 to R114). -/
def pass (limit : Nat) (p : Plant) : Plant × List Chan :=
  let order := p.passOrder
  let granted := p.passGrants
  let q := granted.foldl grant p
  let q := order.foldl (countSkip limit order granted) q
  (q.chooseAnchor limit order, granted)

/-- A refresh sets every channel's remaining tokens to its allowance and restarts the refresh timer (R109). -/
def refreshTokens (p : Plant) : Plant :=
  { p with
    tokens := Vector.ofFn fun c : Chan => { p.tokens[c] with remaining := (p.tokens[c]).allowance }
    refreshTimer := 0, refreshDue := false }

/-- A charge against each channel's remaining tokens: never below 0, and none against an allowance of 0 (R107, R108). -/
def chargeTokens (p : Plant) (charge : Vector Nat 8) : Plant :=
  { p with
    tokens := Vector.ofFn fun c : Chan =>
      let t := p.tokens[c]
      if t.allowance = 0 then t else { t with remaining := t.remaining - charge[c] } }

/-- The refresh timer counts a second tick and is compared with REFRESH_PERIOD as it stands at that tick (R109). -/
def countRefresh (period : Nat) (p : Plant) : Plant :=
  let n := countUp 3600 p.refreshTimer
  { p with refreshTimer := n, refreshDue := decide (period ≤ n) }

/-- The arbiter after a yard reset (R119). -/
def afterYardReset (p : Plant) : Plant :=
  { p.refreshTokens with
    priority := startOrder, claims := Vector.replicate 8 none, grants := Vector.replicate 8 none }

end Plant

end Sys2Proof.Machine
end

