-- ==== Sys2Proof/Machine/Flags.lean ====
section
/-! DEFINITION. The notice flags, their masks and the ATTN outputs of the station ports (R181 to R183). -/

namespace Sys2Proof.Machine

/-- Order of notices: rising kind code, which is falling priority, then rising subject (R181, R183). -/
def Notice.before (x y : Notice) : Bool :=
  decide (x.kind < y.kind ∨ (x.kind = y.kind ∧ x.subject < y.subject))

/-- A flag set in a list of flags kept in order; a flag already set stays as it is (R181). -/
def insertNotice (n : Notice) : List Notice → List Notice
  | [] => [n]
  | x :: xs =>
    if n = x then x :: xs
    else if n.before x then n :: x :: xs
    else x :: insertNotice n xs

/-- A notice raised on a port (R181). -/
def raiseNotice (p : Port) (kind subject : Nat) (s : State) : State :=
  s.modPort p fun q => { q with flags := insertNotice ⟨kind, subject⟩ q.flags }

/-- COMPARTMENT_HELD on the Office port (R15, R181). -/
def raiseHeld (i : Comp) (s : State) : State := raiseNotice officePort 1 (number i) s

/-- CERTIFICATE_EXPIRED on the Office port (R13, R181). -/
def raiseExpired (i : Comp) (s : State) : State := raiseNotice officePort 2 (number i) s

/-- CERTIFICATE_ISSUED on the Office port (R156, R181). -/
def raiseIssued (i : Comp) (s : State) : State := raiseNotice officePort 3 (number i) s

/-- COMPARTMENT_FILLED on the Office port (R14, R181). -/
def raiseFilled (i : Comp) (s : State) : State := raiseNotice officePort 4 (number i) s

/-- DEPARTURE_WAITING on the Office port (R19, R20, R181). -/
def raiseDeparture (s : State) : State := raiseNotice officePort 5 0 s

/-- CHANNEL_FAULT for a head, on the port of its bay (R86, R181). -/
def raiseChannelFault (c : Chan) (s : State) : State := raiseNotice (bayPort (bayOf c)) 1 (headNumber c) s

/-- RUN_DONE for a head, on the port of its bay (R82, R87, R181). -/
def raiseRunDone (c : Chan) (s : State) : State := raiseNotice (bayPort (bayOf c)) 2 (headNumber c) s

/-- CHANNEL_BOUND for a head, on the port of its bay (R68, R181). -/
def raiseChannelBound (c : Chan) (s : State) : State := raiseNotice (bayPort (bayOf c)) 3 (headNumber c) s

/-- INSPECTION_ENDED for a line, on the port of the context's bay (R144, R152, R181). -/
def raiseInspectionEnded (b : Bay) (l : Line) (s : State) : State := raiseNotice (bayPort b) 4 (number l) s

/-- LANE_DONE for a lane, on the Fill port (R170, R181). -/
def raiseLaneDone (l : Lane) (s : State) : State := raiseNotice fillPort 1 (number l) s

/-- How many notice kinds a port's role has (R181). -/
def kindCount (p : Port) : Nat :=
  match portRole p with
  | .office => 5
  | .bay _ => 4
  | .fill => 1

/-- A kind is masked on a port (R182). -/
def StationPort.masked (q : StationPort) (kind : Nat) : Bool :=
  match index? 5 kind with
  | none => false
  | some i => q.masks[i]

/-- The set flags of unmasked kinds, highest priority first (R183). -/
def StationPort.waiting (q : StationPort) : List Notice := q.flags.filter fun n => !q.masked n.kind

/-- The ATTN output of a port: asserted while a flag of an unmasked kind is set (R182), deasserted in reset (R176). -/
def attn (s : State) (p : Port) : Bool := !s.resetPin && !(s.port p).waiting.isEmpty

end Sys2Proof.Machine
end

