-- ==== Sys2Proof/Machine/Operands.lean ====
section
/-! DEFINITION. The layouts of payloads (R187 to R190): byte order, the codes of named values, and the bytes of each item. -/

namespace Sys2Proof.Machine

/-- A number sent in one byte (R187). -/
def byte (n : Nat) : Byte := BitVec.ofNat 8 n

/-- A number of two bytes, least significant first (R187). -/
def word2 (n : Nat) : List Byte := [byte n, byte (n / 256)]

/-- A number of three bytes, least significant first (R187). -/
def word3 (n : Nat) : List Byte := [byte n, byte (n / 256), byte (n / 65536)]

/-- Two received bytes, least significant first (R187). -/
def read2 (a b : Byte) : Nat := a.toNat + 256 * b.toNat

/-- Three received bytes, least significant first (R187, R190). -/
def read3 (a b c : Byte) : Nat := a.toNat + 256 * b.toNat + 65536 * c.toNat

/-- Yes or no, open or closed, asserted or deasserted (R187, R190). -/
def flag (b : Bool) : Byte := if b then 1 else 0

/-- A received yes or no; none for a byte that is neither 1 nor 0 (log 20). -/
def flag? (b : Byte) : Option Bool := if b = 1 then some true else if b = 0 then some false else none

/-- An object's number, 0 where there is none (R187). -/
def numberOr0 {k : Nat} (x : Option (Fin k)) : Byte := byte (x.elim 0 number)

/-- A class, FFh where it is absent and the layout has no presence byte (R187). -/
def classByte (x : Option CargoClass) : Byte := x.elim 0xFF fun c => byte c.val

/-- A next class or product class 1..31 as received (R27). -/
def class1? (n : Byte) : Option CargoClass := if h : 0 < n.toNat ∧ n.toNat < 32 then some ⟨n.toNat, h.2⟩ else none

/-- A last class or matrix row 0..31 as received (R27). -/
def class0? (n : Byte) : Option CargoClass := if h : n.toNat < 32 then some ⟨n.toNat, h⟩ else none

/-! ## Codes of named values -/

/-- State codes (R189). -/
def Lifecycle.code : Lifecycle → Nat
  | .free => 0 | .booked => 1 | .queued => 2 | .washing => 3 | .inspectWait => 4
  | .inspecting => 5 | .cleared => 6 | .filling => 7 | .filled => 8 | .held => 9 | .withdrawn => 10

/-- Sub-reason codes (R189), with 7 for PARTNER_FAULT (R190). -/
def Reason.code : Reason → Nat
  | .abortedByBay => 1 | .flowShort => 2 | .dischargeBlocked => 3 | .dischargeLost => 4
  | .headLifted => 5 | .claimUnfit => 6 | .partnerFault => 7

/-- Hold reason codes (R189). -/
def HoldReason.code : HoldReason → Nat
  | .washAborted => 1 | .washFault _ => 2 | .inspectFail => 3 | .probeFail => 4
  | .certExpired => 5 | .interrupted => 6

/-- Sub-reason codes of a hold reason (R15, R189). -/
def HoldReason.subCode : HoldReason → Nat
  | .washAborted => Reason.abortedByBay.code
  | .washFault r => r.code
  | .inspectFail | .probeFail | .certExpired | .interrupted => 0

/-- Fill outcome codes (R189). -/
def FillOutcome.code : FillOutcome → Nat
  | .complete => 1 | .stopped => 2 | .noFlow => 3 | .armLost => 4 | .interrupted => 5

/-- Channel state codes (R190). -/
def ChannelState.code : ChannelState → Nat
  | .unfitted => 1 | .idle => 2 | .bound => 3 | .claiming => 4 | .running => 5 | .paused => 6
  | .stopping => 7 | .fault => 8 | .service => 9

/-- Role codes: SINGLE, LEAD, PARTNER in the order of R75 (R190). -/
def Role.code : Role → Nat
  | .single => 1 | .lead => 2 | .partner => 3

/-- Claim kind codes: RUN, REHEARSAL, SERVICE in the order of R104 (R190). -/
def ClaimKind.code : ClaimKind → Nat
  | .run => 1 | .rehearsal => 2 | .service => 3

/-- Scheme codes: FIXED, ROTATING in the order of R111 (R190). -/
def Scheme.code : Scheme → Nat
  | .fixed => 1 | .rotating => 2

/-- A received scheme (R111). -/
def scheme? (n : Byte) : Option Scheme := if n = 1 then some .fixed else if n = 2 then some .rotating else none

/-- Probe line state codes (R190). -/
def LineState.code : LineState → Nat
  | .detached => 1 | .docked => 2 | .powering => 3 | .resetting => 4 | .opening => 5 | .ready => 6
  | .sending => 7 | .awaiting => 8 | .receiving => 9 | .closing => 10

/-- Bit order codes: LSB-first, MSB-first in the order of R120 (R190). -/
def BitOrder.code : BitOrder → Nat
  | .lsbFirst => 1 | .msbFirst => 2

/-- Check mode codes (R130, R190). -/
def CheckMode.code : CheckMode → Nat
  | .lrc => 0 | .crc => 1

/-- Link error codes (R190). -/
def LinkError.code : LinkError → Nat
  | .undocked => 1 | .openTimeout => 2 | .badSync => 3 | .openCheck => 4 | .charRetry => 5
  | .parity => 6 | .replyTimeout => 7 | .waitLimit => 8 | .blockErrors => 9 | .protocol => 10

/-- Inspection outcome codes (R190). -/
def InspectionOutcome.code : InspectionOutcome → Nat
  | .pass => 1 | .fail => 2 | .calExpired => 3 | .linkError => 4 | .cancelled => 5

/-- Lane state codes: IDLE, ACTIVE, SETTLING in the order of R160 (R190). -/
def LaneState.code : LaneState → Nat
  | .idle => 1 | .active => 2 | .settling => 3

/-- Supply codes: COLD, HOT, STEAM from 1 and NONE 0, in the order of R41 (R190). -/
def Supply.code : Supply → Nat
  | .none => 0 | .cold => 1 | .hot => 2 | .steam => 3

/-- A received supply. -/
def supply? (n : Byte) : Option Supply :=
  if n = 0 then some .none else if n = 1 then some .cold else if n = 2 then some .hot
  else if n = 3 then some .steam else none

/-- Mode codes: TIMED, METERED, DEMAND in the order of R41 (R190). -/
def StepMode.code : StepMode → Nat
  | .timed => 1 | .metered => 2 | .demand => 3

/-- A received mode. -/
def mode? (n : Byte) : Option StepMode :=
  if n = 1 then some .timed else if n = 2 then some .metered else if n = 3 then some .demand else none

/-- The byte of a matrix cell (R190). -/
def Cell.code : Cell → Nat
  | .none => 0 | .slot r => number r | .barred => 16

/-- A received matrix cell (R32, R190). -/
def cell? (n : Byte) : Option Cell :=
  if n = 0 then some .none else if n = 16 then some .barred
  else match index? 15 n.toNat with
    | none => none
    | some r => some (.slot r)

/-! ## Items of answers -/

/-- Certificate: number, issue minute, cleared class, expiry minute (R156); bytes of 0 where absent (R190). -/
def certBytes : Option Certificate → List Byte
  | none => [0, 0, 0, 0, 0, 0, 0, 0, 0]
  | some c => word2 c.number ++ word3 c.issue ++ [byte c.clearedClass.val] ++ word3 c.expiry

/-- Fill record: lane, product, authorized and metered volume, outcome (R1); bytes of 0 where absent (R190). -/
def fillBytes : Option FillRecord → List Byte
  | none => [0, 0, 0, 0, 0, 0, 0]
  | some f => [byte (number f.lane), byte f.product.val] ++ word2 f.authorized ++ word2 f.metered ++ [byte f.outcome.code]

/-- Four measures in two bytes each (R187). -/
def measureBytes (m : Measures) : List Byte :=
  word2 m.film ++ word2 m.turbidity ++ word2 m.conductivity ++ word2 m.depth

/-- The failed measures as bits 0 to 3 (R189). -/
def failedBits (l : List Measure) : Nat :=
  (if .film ∈ l then 1 else 0) + (if .turbidity ∈ l then 2 else 0)
    + (if .conductivity ∈ l then 4 else 0) + (if .depth ∈ l then 8 else 0)

/-- Bound channels: a single binding is its channel then 0, a paired one head A then head B (R189). -/
def bindingBytes : Option Binding → List Byte
  | none => [0, 0]
  | some (.single c) => [byte (number c), 0]
  | some (.pair b) => [byte (number (headA b)), byte (number (headB b))]

/-- A recipe step in ten bytes (R190). -/
def stepBytes (x : RecipeStep) : List Byte :=
  [byte x.supply.code, flag x.dose, flag x.drain, byte x.hotUnits, byte x.mode.code] ++ word2 x.amount
    ++ [byte x.extraPasses] ++ word2 x.guard

/-- A staging position: its step, or ten bytes of FFh when it is unwritten (R190). -/
def positionBytes : Option RecipeStep → List Byte
  | none => List.replicate 10 0xFF
  | some x => stepBytes x

/-- The five lines COLD, HOT, STEAM, DOSE, DRAIN (R96, R98). -/
def lineBytes (x : Lines) : List Byte := [flag x.cold, flag x.hot, flag x.steam, flag x.dose, flag x.drain]

/-- Units in HOT, STEAM and DOSER. -/
def unitBytes (x : Units) : List Byte := [byte x.hot, byte x.steam, byte x.doser]

/-- A list whose length varies: a count byte, then the entries (R190). -/
def listBytes {α : Type} (f : α → List Byte) (l : List α) : List Byte := byte l.length :: (l.map f).flatten

/-- The presence byte of READ_COMPARTMENT (R189). -/
def presence (c : CompartmentRecord) : Nat :=
  (if c.nextClass.isSome then 1 else 0) + (if c.plan.isSome then 2 else 0)
    + (if c.binding.isSome then 4 else 0) + (if c.readings.isSome then 8 else 0)
    + (if c.hold.isSome then 16 else 0) + (if c.cert.isSome then 32 else 0)
    + (if c.fill.isSome then 64 else 0)

/-- The OK answer of READ_COMPARTMENT after the result code (R21, R189). -/
def compartmentBytes (i : Comp) (c : CompartmentRecord) : List Byte :=
  if c.state = .free then [byte (number i), 0]
  else
    [byte (number i), byte c.state.code, byte (presence c), byte (number c.tanker), byte c.position]
      ++ word2 c.capacity
      ++ [byte c.hatches, byte c.lastClass.val, byte (c.nextClass.elim 0 fun k => k.val), flag c.expedite,
          byte c.tries, byte (c.plan.elim 0 fun p => number p.slot), byte (c.plan.elim 0 fun p => p.roundsDone)]
      ++ bindingBytes c.binding
      ++ measureBytes (c.readings.elim ⟨0, 0, 0, 0⟩ fun r => r.worst)
      ++ [byte (c.readings.elim 0 fun r => failedBits r.failed), byte (c.hold.elim 0 HoldReason.code),
          byte (c.hold.elim 0 HoldReason.subCode)]
      ++ certBytes c.cert ++ fillBytes c.fill

/-- Tanker state codes: FREE, PRESENT, PARKED (R190). -/
def tankerCode : TankerEntry → Nat
  | none => 1
  | some t => if t.bay.isSome then 3 else 2

/-- The OK answer of READ_TANKER after the result code: a FREE entry is its state alone (R21). -/
def tankerBytes (e : TankerEntry) : List Byte :=
  match e with
  | none => [byte (tankerCode e)]
  | some t =>
    byte (tankerCode e) :: word2 t.fleet ++ listBytes (fun i => [byte (number i)]) t.compartments
      ++ [numberOr0 t.bay] ++ word3 t.arrival

/-- A departure record as TAKE_DEPARTURE answers it, its fields in the order of R19 (R190). -/
def departureBytes (d : Departure) : List Byte :=
  word2 d.fleet ++ [byte d.position, byte d.lastClass.val, byte d.finalState.code] ++ certBytes d.cert
    ++ fillBytes d.fill ++ word3 d.minute

end Sys2Proof.Machine
end

