-- ==== Sys2Proof/Machine/Requests.lean ====
section
/-! DEFINITION. Station ports: the receiver, the catalogue of requests with its kind codes and permissions, how a request is held,
taken and answered (R175 to R180, R187). -/

namespace Sys2Proof.Machine

/-! ## Result codes and answers -/

/-- The result codes (R187). -/
inductive ResultCode where
  | ok | badKind | notPermitted | badArg | noSuch | wrongState | busy | tableFull | queueFull
  | inUse | barred | classMismatch | unfit | notDocked | notReady | notOpen
  deriving DecidableEq, Repr

/-- The values the answers carry (R187). -/
def ResultCode.code : ResultCode → Nat
  | .ok => 0 | .badKind => 1 | .notPermitted => 2 | .badArg => 3 | .noSuch => 4 | .wrongState => 5
  | .busy => 6 | .tableFull => 7 | .queueFull => 8 | .inUse => 9 | .barred => 10
  | .classMismatch => 11 | .unfit => 12 | .notDocked => 13 | .notReady => 14 | .notOpen => 15

/-- What an owner answers: a result code and, for OK, the items its rule names (R178, R187). -/
structure Reply where
  result : ResultCode
  data : List Byte
  deriving DecidableEq, Repr

/-- What taking a request gives: the state after it and the reply. -/
abbrev Taken := State × Reply

/-- A refusal: the state as it was, and the result code alone (R179). -/
def refuse (x : ResultCode) (s : State) : Taken := (s, ⟨x, []⟩)

/-- An OK answer with its items. -/
def accept (data : List Byte) (s : State) : Taken := (s, ⟨.ok, data⟩)

/-! ## The catalogue (R180) -/

/-- The requests of the catalogue. -/
inductive RequestKind where
  | book | setNextClass | dispose | withdraw | depart | takeDeparture | readCompartment | readTanker
  | writeMatrixRow | readMatrixRow | writeLimits | readLimits | openYard | clearStaging
  | writeStagingStep | setStagingRounds | loadStaging | readStaging | commitRecipe | eraseRecipe
  | readRecipe | park | unpark | expedite | requestDispatch | cancelBinding | readBay | startRun
  | startRehearsal | abortRun | clearFault | serviceEnter | serviceLatch | serviceClaim
  | serviceRelease | serviceExit | channelStatus | setHotCapacity | setTokenAllowance
  | setPriorityScheme | readArbiter | lineStatus | inspect | cancelInspect | readClock
  | authorizeFill | stopFill | laneStatus | fetchNotice | setNoticeMask | portStatus | setYard
  | readYard | yardReset
  deriving DecidableEq, Repr

/-- Kind codes, from 01h for BOOK to 36h for YARD_RESET in the order of the catalogue (R180). -/
def RequestKind.code : RequestKind → Nat
  | .book => 0x01 | .setNextClass => 0x02 | .dispose => 0x03 | .withdraw => 0x04 | .depart => 0x05
  | .takeDeparture => 0x06 | .readCompartment => 0x07 | .readTanker => 0x08
  | .writeMatrixRow => 0x09 | .readMatrixRow => 0x0A | .writeLimits => 0x0B | .readLimits => 0x0C
  | .openYard => 0x0D | .clearStaging => 0x0E | .writeStagingStep => 0x0F
  | .setStagingRounds => 0x10 | .loadStaging => 0x11 | .readStaging => 0x12
  | .commitRecipe => 0x13 | .eraseRecipe => 0x14 | .readRecipe => 0x15 | .park => 0x16
  | .unpark => 0x17 | .expedite => 0x18 | .requestDispatch => 0x19 | .cancelBinding => 0x1A
  | .readBay => 0x1B | .startRun => 0x1C | .startRehearsal => 0x1D | .abortRun => 0x1E
  | .clearFault => 0x1F | .serviceEnter => 0x20 | .serviceLatch => 0x21 | .serviceClaim => 0x22
  | .serviceRelease => 0x23 | .serviceExit => 0x24 | .channelStatus => 0x25
  | .setHotCapacity => 0x26 | .setTokenAllowance => 0x27 | .setPriorityScheme => 0x28
  | .readArbiter => 0x29 | .lineStatus => 0x2A | .inspect => 0x2B | .cancelInspect => 0x2C
  | .readClock => 0x2D | .authorizeFill => 0x2E | .stopFill => 0x2F | .laneStatus => 0x30
  | .fetchNotice => 0x31 | .setNoticeMask => 0x32 | .portStatus => 0x33 | .setYard => 0x34
  | .readYard => 0x35 | .yardReset => 0x36

/-- Which roles the catalogue's columns permit (R180). -/
inductive Access where
  | office | bay | fill | officeBay | officeFill | every
  deriving DecidableEq, Repr

/-- The columns of the catalogue (R180). -/
def RequestKind.access : RequestKind → Access
  | .book | .setNextClass | .dispose | .withdraw | .depart | .takeDeparture
  | .writeMatrixRow | .readMatrixRow | .writeLimits | .readLimits | .openYard
  | .clearStaging | .writeStagingStep | .setStagingRounds | .loadStaging | .readStaging
  | .commitRecipe | .eraseRecipe | .expedite | .setHotCapacity | .setTokenAllowance
  | .setPriorityScheme | .setYard | .yardReset => .office
  | .readRecipe | .unpark | .requestDispatch | .cancelBinding | .clearFault | .serviceEnter
  | .serviceLatch | .serviceClaim | .serviceRelease | .serviceExit | .cancelInspect => .officeBay
  | .park | .startRun | .startRehearsal | .abortRun | .inspect => .bay
  | .authorizeFill => .fill
  | .stopFill => .officeFill
  | .readCompartment | .readTanker | .readBay | .channelStatus | .readArbiter | .lineStatus
  | .readClock | .laneStatus | .fetchNotice | .setNoticeMask | .portStatus | .readYard => .every

/-- A role is permitted by a column (R180). -/
def Access.admits (a : Access) (r : PortRole) : Bool :=
  match a, r with
  | .every, _ => true
  | .office, .office => true
  | .officeBay, .office => true
  | .officeFill, .office => true
  | .bay, .bay _ => true
  | .officeBay, .bay _ => true
  | .fill, .fill => true
  | .officeFill, .fill => true
  | .office, .bay _ | .office, .fill | .bay, .office | .bay, .fill | .fill, .office | .fill, .bay _
  | .officeBay, .fill | .officeFill, .bay _ => false

/-- The port's role permits the request (R179, R180). -/
def RequestKind.permitted (k : RequestKind) (p : Port) : Bool := k.access.admits (portRole p)

/-- A kind byte that names no request of the catalogue (R179). -/
def namesNoRequest (k : Byte) : Bool := decide (k.toNat = 0 ∨ RequestKind.yardReset.code < k.toNat)

/-! ## Frames -/

/-- One bit of the station port CRC: generator x^16 + x^15 + x^2 + 1, least significant bit first (R177). -/
def portCrcBit (c : BitVec 16) : BitVec 16 := if c.getLsbD 0 then (c >>> 1) ^^^ 0xA001 else c >>> 1

/-- One byte of the station port CRC (R177). -/
def portCrcByte (c : BitVec 16) (b : Byte) : BitVec 16 :=
  let x := c ^^^ b.zeroExtend 16
  portCrcBit (portCrcBit (portCrcBit (portCrcBit (portCrcBit (portCrcBit (portCrcBit (portCrcBit x)))))))

/-- The station port CRC of a run of bytes, from 0000h with no final inversion (R177). -/
def portCrc (l : List Byte) : BitVec 16 := l.foldl portCrcByte 0

/-- A frame: start byte, length, kind, tag, payload, and the CRC of all but the start byte, low byte first (R187). -/
def frameBytes (kind tag : Byte) (payload : List Byte) : List Byte :=
  let covered := byte (payload.length + 2) :: kind :: tag :: payload
  0xD3 :: covered ++ word2 (portCrc covered).toNat

/-- The bytes of an answer in transmission (R178, R187). -/
def Answer.bytes (a : Answer) : List Byte := frameBytes a.kind a.tag a.payload

/-! ## The receiver (R177) -/

/-- A receiver that returns to SEEKING: no frame, no gap timer (R177). -/
def StationPort.seek (q : StationPort) : StationPort :=
  { q with receiver := .seeking, buffer := [], gapRunning := false }

/-- A frame dropped without an answer, with its counter raised (R177). -/
def StationPort.drop (q : StationPort) (cause : DropCause) : StationPort :=
  match cause with
  | .badLength => { q.seek with lengthCount := countUp Config.counterStop q.lengthCount }
  | .framingError => { q.seek with checkCount := countUp Config.counterStop q.checkCount }
  | .crcMismatch => { q.seek with checkCount := countUp Config.counterStop q.checkCount }

/-- A complete frame discarded because the port holds a request (R178). -/
def StationPort.overrun (q : StationPort) : StationPort :=
  { q.seek with overrunCount := countUp Config.counterStop q.overrunCount }

/-- A complete frame becomes the held request, or is an overrun (R178). -/
def StationPort.complete (q : StationPort) (kind tag : Byte) (payload : List Byte) : StationPort :=
  match q.held with
  | none => { q.seek with held := some ⟨kind, tag, payload, false⟩ }
  | some _ => q.overrun

/-- The receiver goes on with a byte stored and the gap timer restarted (R177). -/
def StationPort.store (q : StationPort) (state : ReceiverState) (b : Byte) : StationPort :=
  { q with receiver := state, buffer := q.buffer ++ [b], gapRunning := true }

/-- The length byte of the frame being received (R177). -/
def frameLength (buffer : List Byte) : Nat := (buffer.getD 1 0).toNat

/-- The CRC of a received frame is judged: over bytes 1 to L+1, low byte first (R177). -/
def StationPort.judge (q : StationPort) : StationPort :=
  let l := frameLength q.buffer
  let covered := (q.buffer.drop 1).take (l + 1)
  if word2 (portCrc covered).toNat = q.buffer.drop (l + 2) then
    q.complete (q.buffer.getD 2 0) (q.buffer.getD 3 0) ((q.buffer.drop 4).take (l - 2))
  else q.drop .crcMismatch

/-- The receiver takes one character (R177). -/
def StationPort.receive (q : StationPort) (ch : PortChar) : StationPort :=
  match q.receiver with
  | .seeking => if ch.value = 0xD3 ∧ ch.framingError = false then q.seek.store .length ch.value else q
  | .length =>
    if ch.framingError then q.drop .framingError
    else if 2 ≤ ch.value.toNat ∧ ch.value.toNat ≤ 60 then q.store .body ch.value
    else q.drop .badLength
  | .body =>
    if ch.framingError then q.drop .framingError
    else if frameLength q.buffer + 2 ≤ q.buffer.length + 1 then q.store .check ch.value
    else q.store .body ch.value
  | .check =>
    if ch.framingError then q.drop .framingError
    else if frameLength q.buffer + 4 ≤ q.buffer.length + 1 then (q.store .check ch.value).judge
    else q.store .check ch.value

/-! ## A request held, taken and answered (R178, R179) -/

/-- A held request that its owner has not taken and that is this one. -/
def HeldRequest.isWaiting (h : HeldRequest) (kind : Byte) (r : Request) : Bool :=
  !h.taken && decide (h.kind = kind ∧ h.tag = r.tag ∧ h.payload = r.payload)

/-- The request is the port's own to take: the port holds nothing, so that its frame completes now, or the port holds it already
and no owner has taken it (R178; log 3). -/
def mayTake (kind : Byte) (r : Request) (s : State) : Bool :=
  match (s.port r.port).held with
  | none => true
  | some h => h.isWaiting kind r

/-- The port holds the request as taken; a frame that completes now leaves the receiver SEEKING (R177, R178). -/
def holdTaken (kind : Byte) (r : Request) (s : State) : State :=
  s.modPort r.port fun q =>
    { (if q.held.isNone then q.seek else q) with held := some ⟨kind, r.tag, r.payload, true⟩ }

/-- The kind of an answer: the request's plus 80h, or FFh for a kind 80h..FFh (R178, R179). -/
def answerKind (kind : Byte) : Byte := if kind.toNat < 0x80 then kind + 0x80 else 0xFF

/-- The port builds the answer frame and sends it (R178). -/
def answerWith (kind : Byte) (r : Request) (x : Taken) : State :=
  x.1.modPort r.port fun q =>
    { q with answer := some ⟨answerKind kind, r.tag, byte x.2.result.code :: x.2.data⟩ }

/-- A request frame reaches its port: it is taken and answered, or, where the port holds another request, discarded as an
overrun (R178). -/
def serve (kind : Byte) (r : Request) (owner : State → Taken) (s : State) : State :=
  if mayTake kind r s then answerWith kind r (owner (holdTaken kind r s))
  else s.modPort r.port StationPort.overrun

/-- A request of the catalogue served: the port's role is checked, then its owner takes it (R179). -/
def serveRequest (k : RequestKind) (r : Request) (owner : State → Taken) : State → State :=
  serve (byte k.code) r fun t => if k.permitted r.port then owner t else refuse .notPermitted t

/-- A request of the catalogue reaches a part that is not held in reset (R176, R179). -/
def takeRequest (k : RequestKind) (r : Request) (owner : State → Taken) (s : State) : Result := live s (serveRequest k r owner)

/-- The last character of the answer has been sent and the request is no longer held (R178). -/
def StationPort.sent (q : StationPort) : StationPort :=
  if q.answer.isSome then { q with held := none, answer := none } else q

/-! ## Names in requests (R3, R76) -/

/-- The name check of a compartment index: BAD_ARG outside 1..96, NO_SUCH for a FREE record (R3). -/
def nameComp (n : Byte) (s : State) (k : Comp → CompartmentRecord → Taken) : Taken :=
  match index? 96 n.toNat with
  | none => refuse .badArg s
  | some i => if (s.comp i).state = .free then refuse .noSuch s else k i (s.comp i)

/-- The name check of a tanker slot: BAD_ARG outside 1..16, NO_SUCH for a FREE entry (R3). -/
def nameTanker (n : Byte) (s : State) (k : Tanker → TankerData → Taken) : Taken :=
  match index? 16 n.toNat with
  | none => refuse .badArg s
  | some i =>
    match s.tanker i with
    | none => refuse .noSuch s
    | some t => k i t

/-- The common checks of a request that names a channel: BAD_ARG outside 1..8, NOT_PERMITTED for another bay's channel, UNFIT for
an UNFITTED channel (R70, R76). -/
def nameChannel (p : Port) (n : Byte) (s : State) (k : Chan → Taken) : Taken :=
  match index? 8 n.toNat with
  | none => refuse .badArg s
  | some c =>
    if foreignChannel p c then refuse .notPermitted s
    else if (s.chan c).state = .unfitted then refuse .unfit s
    else k c

/-- The name of a probe line: 1 for PA, 2 for PB (R190). -/
def nameLine (n : Byte) (s : State) (k : Line → Taken) : Taken :=
  match index? 2 n.toNat with
  | none => refuse .badArg s
  | some l => k l

/-- The name of a fill lane: 1 for L1, 2 for L2 (R190). -/
def nameLane (n : Byte) (s : State) (k : Lane → Taken) : Taken :=
  match index? 2 n.toNat with
  | none => refuse .badArg s
  | some l => k l

/-- NOT_OPEN comes before every other check of the owner (R38). -/
def whenOpen (s : State) (x : Taken) : Taken := if s.yardOpen then x else refuse .notOpen s

end Sys2Proof.Machine
end

