-- ==== Sys2Proof/Machine/Records.lean ====
section
/-! DEFINITION. The shared operations of the compartment table: holds, certificates, queue-ins and the reports that other blocks
send it (R7 to R15, R156, R157). -/

namespace Sys2Proof.Machine

/-! ## Certificates (R155 to R157) -/

/-- The certificate numbers held by records and by departure copies (R156). -/
def heldNumbers (s : State) : List Nat :=
  ((List.finRange 96).filterMap fun i => (s.comp i).cert.map fun c => c.number)
    ++ s.departures.filterMap fun d => d.cert.map fun c => c.number

/-- The number after a certificate number: 65535 is followed by 1 (R156). -/
def nextNumber (n : Nat) : Nat := if 65535 ≤ n then 1 else n + 1

/-- The first number, counting upward from `n`, that none of `held` is; one try more than the held numbers always finds one. -/
def firstFree (held : List Nat) : Nat → Nat → Nat
  | 0, n => n
  | tries + 1, n => if n ∈ held then firstFree held tries (nextNumber n) else n

/-- The certificate that an issue to the record gives now (R156). -/
def newCertificate (i : Comp) (s : State) : Certificate :=
  { number := firstFree (heldNumbers s) (heldNumbers s).length s.certCounter
    issue := s.clock.minute
    clearedClass := (s.comp i).nextClass.getD 0
    expiry := (s.clock.minute + s.setting .validity) % Config.minuteModulus }

/-- A certificate is issued to the record, which becomes CLEARED; the counter goes to the number after it and
CERTIFICATE_ISSUED is raised (R7, R10, R12, R156). -/
def issueCertificate (i : Comp) (s : State) : State :=
  let c := newCertificate i s
  raiseIssued i
    { s.modComp i fun r => { r with state := .cleared, cert := some c } with certCounter := nextNumber c.number }

/-! ## Holds (R15) -/

/-- The record becomes HELD with a reason, and COMPARTMENT_HELD is raised (R15). A HELD record is bound to no channel and holds
no certificate (R1). -/
def holdRecord (i : Comp) (why : HoldReason) (s : State) : State :=
  raiseHeld i (s.modComp i fun r => { r with state := .held, hold := some why, binding := none, cert := none })

/-! ## Queue-in (R7, R30, R64) -/

/-- The bay in which the record's tanker is parked. -/
def parkedBay (i : Comp) (s : State) : Option Bay := (s.tanker (s.comp i).tanker).bind fun t => t.bay

/-- What a queue-in makes of a record on the cell that it has read; a NONE cell leaves it to the limit entry of the next class, read
now (R7, R37). -/
def queueInOn (cell : Cell) (b : Bay) (i : Comp) (s : State) : State :=
  match cell with
  | .slot x =>
    (s.modComp i fun r => { r with state := .queued, plan := some ⟨x, 0⟩ }).modBay b
      fun y => { y with queue := y.queue ++ [i] }
  | .none =>
    if (limitEntry s (s.comp i).nextClass).inspectionRequired then s.modComp i fun r => { r with state := .inspectWait }
    else issueCertificate i s
  | .barred => s.modComp i fun r => { r with nextClass := none }

/-- A BOOKED record whose next class is present is queued in at a bay: the matrix cell decides (R7). -/
def queueIn (b : Bay) (i : Comp) (s : State) : State :=
  match (s.comp i).nextClass with
  | none => s
  | some next => queueInOn (s.cell (s.comp i).lastClass next) b i s

/-- A dispatch attempt is caused in a bay and waits to be made as an event of its own (R66). -/
def oweAttempt (b : Bay) (s : State) : State := s.modBay b fun y => { y with owed := y.owed + 1 }

/-- The queue-in of SET_NEXT_CLASS and DISPOSE with REWASH: made when the record's tanker is PARKED, with one dispatch attempt
caused when it adds the record to the queue (R6, R16, R64, R66). -/
def queueInAlone (i : Comp) (s : State) : State :=
  match parkedBay i s with
  | none => s
  | some b =>
    let t := queueIn b i s
    if (t.comp i).state = .queued then oweAttempt b t else t

/-! ## Reports from channels (R8 to R11) -/

/-- A record is WASHING and bound to a channel, alone or in a pair (R8 to R11). -/
def washingOn (r : CompartmentRecord) (c : Chan) : Bool :=
  decide (r.state = .washing) &&
    match r.binding with
    | none => false
    | some (.single x) => decide (x = c)
    | some (.pair b) => decide (bayOf c = b)

/-- A channel reports the count of rounds completed (R9). -/
def reportRounds (i : Comp) (c : Chan) (n : Nat) (s : State) : State :=
  if washingOn (s.comp i) c then
    s.modComp i fun r => { r with plan := r.plan.map fun p => { p with roundsDone := n } }
  else s

/-- A channel reports that the run is complete (R10). -/
def reportComplete (i : Comp) (c : Chan) (s : State) : State :=
  if washingOn (s.comp i) c then
    let t := s.modComp i fun r => { r with state := .inspectWait, binding := none, plan := none }
    if (limitEntry s (s.comp i).nextClass).inspectionRequired then t else issueCertificate i t
  else s

/-- A channel reports an abort or a fault at entry to STOPPING (R11). -/
def reportStopped (i : Comp) (c : Chan) (why : Reason) (s : State) : State :=
  if washingOn (s.comp i) c then
    holdRecord i (if why = .abortedByBay then .washAborted else .washFault why) s
  else s

/-- A binding is returned: the record is QUEUED again, at the front of the queue of its tanker's bay (R8, R71). -/
def returnBinding (i : Comp) (c : Chan) (s : State) : State :=
  if washingOn (s.comp i) c then
    (s.modComp i fun r => { r with state := .queued, binding := none }).modBay (bayOf c)
      fun y => { y with queue := i :: y.queue }
  else s

/-! ## Reports from inspections (R12) -/

/-- Which measures a set of worst readings fails against the maxima, in order (R149). -/
def failedMeasures (worst max : Measures) : List Measure :=
  (if max.film < worst.film then [.film] else [])
    ++ (if max.turbidity < worst.turbidity then [.turbidity] else [])
    ++ (if max.conductivity < worst.conductivity then [.conductivity] else [])
    ++ (if max.depth < worst.depth then [.depth] else [])

/-- Pass: the readings are written and a certificate is issued (R12). -/
def reportPass (i : Comp) (worst : Measures) (s : State) : State :=
  if (s.comp i).state = .inspecting then
    issueCertificate i (s.modComp i fun r => { r with readings := some ⟨worst, []⟩ })
  else s

/-- Fail: the readings and the failed list are written and the record is held (R12). -/
def reportFail (i : Comp) (worst : Measures) (failed : List Measure) (s : State) : State :=
  if (s.comp i).state = .inspecting then
    holdRecord i .inspectFail (s.modComp i fun r => { r with readings := some ⟨worst, failed⟩ })
  else s

/-- Link error: a try is counted, and the third holds the record (R12, R150). -/
def reportLinkError (i : Comp) (s : State) : State :=
  if (s.comp i).state = .inspecting then
    let t := s.modComp i fun r => { r with state := .inspectWait, tries := r.tries + 1 }
    if 3 ≤ (s.comp i).tries + 1 then holdRecord i .probeFail t else t
  else s

/-- Calibration refused, or cancelled: the record goes back to INSPECT_WAIT (R12). -/
def reportNoJudgement (i : Comp) (s : State) : State :=
  if (s.comp i).state = .inspecting then s.modComp i fun r => { r with state := .inspectWait } else s

/-! ## Reports from fill lanes (R14, R25) -/

/-- The end of a fill: FILLED with a fill record for a count above 0, CLEARED again for a count of 0 (R14). -/
def reportFill (l : Lane) (x : FillContext) (count : Nat) (outcome : FillOutcome) (s : State) : State :=
  if (s.comp x.comp).state = .filling then
    if 0 < count then
      raiseFilled x.comp
        (s.modComp x.comp fun r =>
          { r with state := .filled, fill := some ⟨l, x.product, x.volume, count, outcome⟩ })
    else s.modComp x.comp fun r => { r with state := .cleared }
  else s

/-! ## Expiry (R13, R157) -/

/-- A CLEARED record is examined at a minute tick: past its expiry it is HELD with its certificate voided (R13). -/
def examineExpiry (i : Comp) (s : State) : State :=
  let r := s.comp i
  if r.state = .cleared ∧ (r.cert.any fun c => minuteReached c.expiry s.clock.minute) then
    holdRecord i .certExpired (raiseExpired i s)
  else s

end Sys2Proof.Machine
end

