-- ==== Sys2Proof/Machine/Runs.lean ====
section
/-! DEFINITION. The wash channels at work: valve lines, the steps, passes and rounds of a run, faults, aborts and drain-down, and what
the arbiter's passes hand to the channels (R75 to R94, R104 to R106). -/

namespace Sys2Proof.Machine

/-! ## Pairs and run contexts (R75, R90) -/

/-- The channel under which a channel's run stands: head A for the partner of a pair, else the channel itself (R76, R90). -/
def leadOf (s : State) (c : Chan) : Chan :=
  match (s.chan c).binding with
  | some ⟨_, .partner⟩ => headA (bayOf c)
  | some ⟨_, .single⟩ | some ⟨_, .lead⟩ | none => c

/-- The channel is bound in a pair. -/
def isPair (s : State) (c : Chan) : Bool :=
  match (s.chan c).binding with
  | some ⟨_, .lead⟩ | some ⟨_, .partner⟩ => true
  | some ⟨_, .single⟩ | none => false

/-- The channels that run as one with a channel: both heads of a pair, head A first, or the channel alone (R90). -/
def headsOf (s : State) (c : Chan) : List Chan :=
  if isPair s c then [headA (bayOf c), headB (bayOf c)] else [c]

/-- The other head of the bay. -/
def otherHead (c : Chan) : Chan := if c.val % 2 = 0 then headB (bayOf c) else headA (bayOf c)

/-- The run context of a channel or of its pair (R90). -/
def runOf (s : State) (c : Chan) : Option RunContext := (s.chan (leadOf s c)).run

/-- The recipe that a channel runs. -/
def recipeOf (s : State) (c : Chan) : Option Recipe := (runOf s c).bind fun r => s.recipe r.slot

/-- A step of a recipe, numbered from 1 (R40). -/
def Recipe.step? (x : Recipe) (n : Nat) : Option RecipeStep := if n = 0 then none else x.steps[n - 1]?

/-- The step that a channel runs (R79). -/
def stepOf (s : State) (c : Chan) : Option RecipeStep :=
  (runOf s c).bind fun r => (s.recipe r.slot).bind fun x => x.step? r.step

/-- The channel runs a rehearsal (R93). -/
def rehearses (s : State) (c : Chan) : Bool := (s.chan c).rehearsal.isSome

/-- The run context of a lead or single channel changed. -/
def modRun (c : Chan) (f : RunContext → RunContext) (s : State) : State :=
  s.modChan c fun x => { x with run := x.run.map f }

/-- Several channels changed in the same way. -/
def modHeads (l : List Chan) (f : WashChannel → WashChannel) (s : State) : State :=
  l.foldl (fun t c => t.modChan c f) s

/-! ## Valve lines (R77) -/

/-- The lines of a channel RUNNING a step of a real run; a head that has counted its amount in a paired METERED pass has its
supply line and DOSE closed (R42, R77, R91). -/
def runningLines (x : RecipeStep) (waits : Bool) : Lines :=
  { cold := decide (x.supply = .cold) && !waits
    hot := decide (x.supply = .hot) && !waits
    steam := decide (x.supply = .steam) && !waits
    dose := x.dose && !waits
    drain := x.drain }

/-- The five valve lines of a channel, driven from the state (R77); all closed while the reset pin is asserted (R176). -/
def valveLines (s : State) (c : Chan) : Lines :=
  let x := s.chan c
  if s.resetPin then Lines.closed
  else
    match x.state with
    | .running =>
      if x.rehearsal.isSome then Lines.closed
      else (stepOf s c).elim Lines.closed fun st =>
        runningLines st (isPair s c && decide (st.mode = .metered) && x.headDone)
    | .stopping => if x.rehearsal.isSome then Lines.closed else { Lines.closed with drain := s.permit }
    | .service =>
      let g := s.plant.grantUnits c
      { cold := x.latch.cold
        hot := x.latch.hot && decide (0 < g.hot)
        steam := x.latch.steam && decide (0 < g.steam)
        dose := x.latch.dose && decide (0 < g.doser)
        drain := x.latch.drain }
    | .unfitted | .idle | .bound | .claiming | .paused | .fault => Lines.closed

/-- The tokens that a second tick charges a channel, from the line, state and grant as they stand (R108). -/
def tokenCharge (s : State) (c : Chan) : Nat :=
  let x := s.chan c
  let openHot (d : Chan) : Nat := if (valveLines s d).hot then 1 else 0
  match x.state with
  | .running =>
    match x.binding with
    | some ⟨_, .single⟩ => openHot c * (s.plant.grantUnits c).hot
    | some ⟨_, .lead⟩ =>
      ((stepOf s c).elim 0 fun st => st.hotUnits) * (openHot (headA (bayOf c)) + openHot (headB (bayOf c)))
    | some ⟨_, .partner⟩ | none => 0
  | .service => openHot c * (s.plant.grantUnits c).hot
  | .unfitted | .idle | .bound | .claiming | .paused | .stopping | .fault => 0

/-! ## Entry to IDLE and STOPPING (R66, R86 to R88, R94) -/

/-- A channel enters IDLE at an event that causes a dispatch attempt in its bay (R66). -/
def enterIdle (c : Chan) (s : State) : State :=
  oweAttempt (bayOf c) (s.modChan c fun x => { x with state := .idle, reason := none })

/-- STOPPING ends: IDLE after an abort, else FAULT with the reason kept; a rehearsal slot is cleared (R88, R94). -/
def endStopping (c : Chan) (s : State) : State :=
  let t := s.modChan c fun x => { x with state := .fault, rehearsal := none, drainTimer := 0 }
  if (s.chan c).reason = some .abortedByBay then enterIdle c t else t

/-- One head enters STOPPING with a reason: it reports to CT, its binding and run context are cleared, the drain-down timer starts
with the drain-down time read now, and CHANNEL_FAULT is raised, or RUN_DONE for an abort (R86, R87, R88, R94). A drain-down time of
0 ends STOPPING in the same event (R88). -/
def stopHead (s : State) (x : Chan × Reason) : State :=
  let c := x.1
  let why := x.2
  let s1 := (s.chan c).binding.elim s fun b => reportStopped b.comp c why s
  let s2 := s1.modChan c fun y =>
    { y with
      state := .stopping, binding := none, run := none, pauseTimer := 0, pauseDue := false,
      drainTimer := 0, drainTime := s.setting .drainDownTime, reason := some why }
  let s3 := if why = .abortedByBay then raiseRunDone c s2 else raiseChannelFault c s2
  if s.setting .drainDownTime = 0 then endStopping c s3 else s3

/-- The heads of a run enter STOPPING, each with its reason, the first reporting first (R92). -/
def stopHeads (l : List (Chan × Reason)) (s : State) : State := l.foldl stopHead s

/-- Every head with the same reason: the permit, the pause limit and an abort reach both heads of a pair alike (R83, R84, R92;
log 16). -/
def sameReason (s : State) (c : Chan) (why : Reason) : List (Chan × Reason) := (headsOf s c).map fun h => (h, why)

/-- One head faults on its own cause and reports first; the other head of a pair takes PARTNER_FAULT (R92). -/
def ownReason (s : State) (c : Chan) (why : Reason) : List (Chan × Reason) :=
  if isPair s c then [(c, why), (otherHead c, .partnerFault)] else [(c, why)]

/-! ## Entering RUNNING (R79, R80, R83) -/

/-- A pass begins: timers, running time and meter count cleared, head done no (R80, R91). -/
def startPass (c : Chan) (s : State) : State :=
  modRun c (fun r => { r with passTimer := 0, runningTime := 0 })
    (modHeads (headsOf s c) (fun x => { x with meter := 0, headDone := false }) s)

/-- What DISCHARGE_PERMIT deasserted does to a run in RUNNING: a DEMAND step pauses; a TIMED or METERED step of a real run that
drains faults DISCHARGE_LOST; any other runs on (R83, R94). The list names the channel whose grant is then to be released. -/
def judgeNoPermit (c : Chan) (s : State) : State × List Chan :=
  match stepOf s c with
  | none => (s, [])
  | some st =>
    if st.mode = .demand then
      (modHeads (headsOf s c) (fun x => { x with state := .paused, pauseTimer := 0, pauseDue := false }) s, [])
    else if st.drain && !rehearses s c then (stopHeads (sameReason s c .dischargeLost) s, [c])
    else (s, [])

/-- A channel, or both heads of its pair, enter RUNNING and begin the first pass; the permit is judged at this moment (R79, R83). -/
def enterRunning (c : Chan) (s : State) : State × List Chan :=
  let t := startPass c (modHeads (headsOf s c) (fun x => { x with state := .running }) s)
  if t.permit then (t, []) else judgeNoPermit c t

/-! ## The arbiter's events (R104 to R106, R112, R117) -/

/-- The grant of a claim is handed to its channel: one in CLAIMING enters RUNNING, a SERVICE channel's lines follow (R105). -/
def handGrant (c : Chan) (s : State) : State × List Chan :=
  if (s.chan c).state = .claiming then enterRunning c s else (s, [])

/-- The grants of a pass are handed over in the order in which it made them. -/
def handGrants : List Chan → State → State × List Chan
  | [], s => (s, [])
  | c :: cs, s =>
    let (s1, r1) := handGrant c s
    let (s2, r2) := handGrants cs s1
    (s2, r1 ++ r2)

/-- An arbitration pass with its grants handed to their channels; the list names the channels that faulted on their grant and now
release it, oldest first. -/
def makePass (s : State) : State × List Chan :=
  let (p, granted) := s.plant.pass (s.setting .skipLimit)
  handGrants granted (s.setPlant p)

/-- Releases taken one after the other, each followed by its pass (R106); those that a pass brings about join the end (log 15). A
release of a channel that holds no grant changes nothing. The first argument bounds the releases: each one that a pass brings about
has used up one of at most eight waiting claims. -/
def takeReleases : Nat → List Chan → State → State
  | 0, _, s => s
  | _ + 1, [], s => s
  | n + 1, c :: cs, s =>
    if (s.plant.grants[c]).isSome then
      let (t, more) := makePass (s.setPlant (s.plant.setGrant c none))
      takeReleases n (cs ++ more) t
    else takeReleases n cs s

/-- A pass at the end of an event of PA, with the releases it brings about (R112, R117). -/
def arbitrate (s : State) : State :=
  let (t, more) := makePass s
  takeReleases 8 more t

/-- A channel releases its grant (R106). -/
def releaseGrant (c : Chan) (s : State) : State := takeReleases 9 [c] s

/-- A channel withdraws its waiting claim (R106). -/
def withdrawClaim (c : Chan) (s : State) : State :=
  if (s.plant.claims[c]).isSome then arbitrate (s.setPlant (s.plant.setClaim c none)) else s

/-- A channel gives its plant back: it releases a grant or withdraws a waiting claim (R86, R95, R97, R106). -/
def giveBack (c : Chan) (s : State) : State :=
  if (s.plant.grants[c]).isSome then releaseGrant c s else withdrawClaim c s

/-- A claim is lodged: above a capacity it is refused and the channel faults CLAIM_UNFIT, else it waits and a pass is made
(R79, R104). -/
def lodgeClaim (c : Chan) (kind : ClaimKind) (units : Units) (s : State) : State :=
  if units.fits s.plant.capacity then
    arbitrate (s.setPlant (s.plant.setClaim c (some ⟨kind, units, 0, false, isPair s c⟩)))
  else stopHeads (ownReason s c .claimUnfit) s

/-! ## Steps, passes and rounds (R79, R81, R82, R94) -/

/-- The claim of a step, doubled for a pair (R43, R79). -/
def unitClaim (s : State) (c : Chan) (x : RecipeStep) : Units :=
  if isPair s c then (stepClaim x).double else stepClaim x

/-- The channel begins step `n` of its run: CLAIMING, then RUNNING at once on an empty claim, else the claim is lodged (R79). -/
def beginStep (c : Chan) (n : Nat) (s : State) : State :=
  let s1 := modHeads (headsOf s c) (fun x => { x with state := .claiming }) (modRun c (fun r => { r with step := n }) s)
  match stepOf s1 c with
  | none => s1
  | some st =>
    let s2 := modRun c (fun r => { r with passCounter := st.extraPasses }) s1
    let claim := unitClaim s2 c st
    if claim = Units.zero then
      let (s3, more) := enterRunning c s2
      takeReleases 9 more s3
    else lodgeClaim c (if rehearses s2 c then .rehearsal else .run) claim s2

/-- The run is complete: CT has the report of a real run; binding, rehearsal slot and run context are cleared, and each head enters
IDLE with RUN_DONE raised (R82, R94). -/
def completeRun (c : Chan) (s : State) : State :=
  let s1 := (s.chan c).binding.elim s fun b => reportComplete b.comp c s
  (headsOf s c).foldl
    (fun t h =>
      raiseRunDone h (enterIdle h (t.modChan h fun x => { x with binding := none, rehearsal := none, run := none })))
    s1

/-- The last step of a round ends: the round counts, and the run begins again at step 1 or is complete (R82, R94). -/
def endRound (c : Chan) (s : State) : State :=
  match runOf s c, recipeOf s c with
  | some r, some x =>
    let t := modRun c (fun r => { r with rounds := r.rounds + 1 }) s
    if r.rounds + 1 < x.rounds then
      beginStep c 1 ((t.chan c).binding.elim t fun b => reportRounds b.comp c (r.rounds + 1) t)
    else completeRun c t
  | _, _ => s

/-- A step ends: its lines close, its grant is released with that release's pass, and the next step or the end of the round
follows (R81). -/
def endStep (c : Chan) (s : State) : State :=
  let t := releaseGrant c (modHeads (headsOf s c) (fun x => { x with state := .claiming }) s)
  match runOf t c, recipeOf t c with
  | some r, some x => if r.step < x.steps.length then beginStep c (r.step + 1) t else endRound c t
  | _, _ => t

/-- A pass ends: at terminal count the step ends, else the next pass begins (R81). -/
def endPass (c : Chan) (s : State) : State :=
  match runOf s c with
  | none => s
  | some r =>
    if r.passCounter = 0 then endStep c s
    else startPass c (modRun c (fun r => { r with passCounter := r.passCounter - 1 }) s)

/-- The heads of a run fault or are aborted: they enter STOPPING, and the run's plant is given back (R86, R87). -/
def stopRun (c : Chan) (l : List (Chan × Reason)) (s : State) : State := giveBack c (stopHeads l s)

/-- The record of a channel or pair goes back to its queue, and the channels to IDLE with no dispatch attempt (R70, R71, R87). An attempt
that an earlier event caused in the bay stays owed, and may bind the record when it is made (R66; DESIGN CHOICE, log 17). -/
def giveBindingBack (c : Chan) (s : State) : State :=
  let s1 := (s.chan c).binding.elim s fun b => returnBinding b.comp c s
  let s2 := modHeads (headsOf s c) (fun x => { x with state := .idle, binding := none, run := none }) s1
  withdrawClaim c s2

/-- Every step's claim fits the present capacities, doubled for a pair (R78, R93). -/
def recipeFits (p : Plant) (pair : Bool) (x : Recipe) : Bool :=
  x.steps.all fun st => (if pair then (stepClaim st).double else stepClaim st).fits p.capacity

/-! ## Second ticks of a channel (R75, R80, R84, R88) -/

/-- The run context after a second tick in RUNNING: TIMED and METERED passes count their pass timer, DEMAND its running time. -/
def tickRun (mode : StepMode) (r : RunContext) : RunContext :=
  match mode with
  | .timed | .metered => { r with passTimer := countUp 5000 r.passTimer }
  | .demand => { r with runningTime := countUp 3600 r.runningTime }

/-- A channel after a second tick; the lead counts for its pair (R90). -/
def tickChannel (s : State) (c : Chan) : WashChannel :=
  let x := s.chan c
  match x.state with
  | .running => { x with run := x.run.map fun r => (stepOf s c).elim r fun st => tickRun st.mode r }
  | .paused =>
    if x.run.isSome then
      let n := countUp 1800 x.pauseTimer
      { x with pauseTimer := n, pauseDue := decide (s.setting .pauseLimit ≤ n) }
    else x
  | .stopping => { x with drainTimer := countUp 120 x.drainTimer }
  | .unfitted | .idle | .bound | .claiming | .fault | .service => x

end Sys2Proof.Machine
end

