-- ==== Sys2Proof/Machine/ArbiterRequests.lean ====
section
/-! DEFINITION. The requests that the plant arbiter owns: SET_HOT_CAPACITY, SET_TOKEN_ALLOWANCE, SET_PRIORITY_SCHEME and READ_ARBITER
(chapter 6). -/

namespace Sys2Proof.Machine

/-- The channels whose waiting claim asks for more HOT units than a new capacity, in the pass order before the change (R103). -/
def droppedClaims (p : Plant) (capacity : Nat) : List Chan :=
  p.passOrder.filter fun c => decide (capacity < (p.claimUnits c).hot)

/-- A waiting claim is dropped and reported to its channel: one in CLAIMING faults CLAIM_UNFIT, one in SERVICE stays in SERVICE
(R79, R103, R115). -/
def dropClaim (s : State) (c : Chan) : State :=
  let t := s.setPlant (s.plant.setClaim c none)
  if (s.chan c).state = .claiming then stopHeads (ownReason t c .claimUnfit) t else t

/-- The effect of an accepted SET_HOT_CAPACITY: the capacity, the drops, then one arbitration pass (R103). -/
def changeHotCapacity (n : Nat) (s : State) : State :=
  arbitrate ((droppedClaims s.plant n).foldl dropClaim (s.setPlant { s.plant with hotCapacity := n }))

/-- SET_HOT_CAPACITY: the checks of R103 in order. -/
def ownSetHotCapacity (r : Request) (s : State) : Taken :=
  match r.payload with
  | [n] =>
    if ¬(1 ≤ n.toNat ∧ n.toNat ≤ 8) then refuse .badArg s
    else if n.toNat < s.plant.granted.hot then refuse .inUse s
    else accept [byte (droppedClaims s.plant n.toNat).length] (changeHotCapacity n.toNat s)
  | _ => refuse .badArg s

/-- SET_TOKEN_ALLOWANCE (R107). -/
def ownSetTokenAllowance (r : Request) (s : State) : Taken :=
  match r.payload with
  | [n, a, b] =>
    match index? 8 n.toNat with
    | none => refuse .badArg s
    | some c =>
      if (s.chan c).state = .unfitted then refuse .unfit s
      else
        accept []
          (s.setPlant { s.plant with tokens := put s.plant.tokens c ⟨read2 a b, read2 a b⟩ })
  | _ => refuse .badArg s

/-- SET_PRIORITY_SCHEME: a change of scheme puts the order back to 1..8; the present scheme changes nothing (R111). -/
def ownSetPriorityScheme (r : Request) (s : State) : Taken :=
  match r.payload with
  | [n] =>
    match scheme? n with
    | none => refuse .badArg s
    | some x =>
      if x = s.plant.scheme then accept [] s
      else accept [] (s.setPlant { s.plant with scheme := x, priority := Plant.startOrder })
  | _ => refuse .badArg s

/-- A channel's tokens as READ_ARBITER reports them: exhausted is 1, in standing is 2 (R116, R190). -/
def tokenBytes (p : Plant) (c : Chan) : List Byte :=
  word2 (p.tokens[c]).allowance ++ word2 (p.tokens[c]).remaining ++ [byte (if p.exhausted c then 1 else 2)]

/-- A waiting claim as READ_ARBITER reports it (R116). -/
def claimBytes (p : Plant) (c : Chan) : List Byte :=
  (p.claims[c]).elim [] fun k =>
    [byte (number c), byte k.kind.code] ++ unitBytes k.units ++ [byte k.skips, flag k.anchored]

/-- A grant as READ_ARBITER reports it, with the partner of a pair named (R116). -/
def grantBytes (p : Plant) (c : Chan) : List Byte :=
  (p.grants[c]).elim [] fun g =>
    [byte (number c), byte (if g.pair then number (Plant.partnerOf c) else 0), byte g.kind.code] ++ unitBytes g.units

/-- The OK answer of READ_ARBITER after the result code: its items in the order of R116, grants in channel order (log 21). -/
def arbiterBytes (s : State) : List Byte :=
  let p := s.plant
  unitBytes p.capacity ++ unitBytes p.free ++ [byte p.scheme.code]
    ++ (p.priority.map fun c => byte (number c))
    ++ [byte (s.setting .skipLimit)] ++ word2 (s.setting .refreshPeriod) ++ word2 p.refreshTimer
    ++ ((List.finRange 8).map (tokenBytes p)).flatten
    ++ listBytes (claimBytes p) p.passOrder
    ++ listBytes (grantBytes p) ((List.finRange 8).filter fun c => (p.grants[c]).isSome)

/-- READ_ARBITER (R116). -/
def ownReadArbiter (r : Request) (s : State) : Taken :=
  match r.payload with
  | [] => accept (arbiterBytes s) s
  | _ => refuse .badArg s

/-! ## Meanings -/

def execSetHotCapacity (r : Request) (s : State) : Result := takeRequest .setHotCapacity r (ownSetHotCapacity r) s
def execSetTokenAllowance (r : Request) (s : State) : Result :=
  takeRequest .setTokenAllowance r (ownSetTokenAllowance r) s
def execSetPriorityScheme (r : Request) (s : State) : Result :=
  takeRequest .setPriorityScheme r (ownSetPriorityScheme r) s
def execReadArbiter (r : Request) (s : State) : Result := takeRequest .readArbiter r (ownReadArbiter r) s

end Sys2Proof.Machine
end

