-- ==== Sys2Proof/Machine/ConfigRequests.lean ====
section
/-! DEFINITION. The requests that the configuration store owns: the matrix, the limit table, the yard-open flag, the staging buffer,
the recipe slots and the yard settings (chapters 2 and 3, R185). -/

namespace Sys2Proof.Machine

/-! ## Matrix and limits (R32, R33, R36) -/

/-- Every element of a list read, or none when one cannot be. -/
def readAll {α β : Type} (f : α → Option β) : List α → Option (List β)
  | [] => some []
  | x :: xs =>
    match f x, readAll f xs with
    | some y, some ys => some (y :: ys)
    | _, _ => none

/-- A cell that names an EMPTY slot (R32). -/
def namesEmptySlot (s : State) (x : Cell) : Bool :=
  match x with
  | .slot r => (s.recipe r).isNone
  | .none | .barred => false

/-- A row made of 32 cells in column order. -/
def rowOf (l : List Cell) : Vector Cell 32 := Vector.ofFn fun c : CargoClass => l.getD c.val .barred

/-- WRITE_MATRIX_ROW: the checks of R32 in order. -/
def ownWriteMatrixRow (r : Request) (s : State) : Taken :=
  match r.payload with
  | n :: cells =>
    match class0? n, readAll cell? cells with
    | some row, some l =>
      if l.length ≠ 32 then refuse .badArg s
      else if l.any (namesEmptySlot s) then refuse .badArg s
      else accept [] { s with matrix := put s.matrix row (rowOf l) }
    | _, _ => refuse .badArg s
  | [] => refuse .badArg s

/-- READ_MATRIX_ROW (R33). -/
def ownReadMatrixRow (r : Request) (s : State) : Taken :=
  match r.payload with
  | [n] =>
    match class0? n with
    | none => refuse .badArg s
    | some row => accept ((List.finRange 32).map fun c => byte (s.cell row c).code) s
  | _ => refuse .badArg s

/-- The maxima of an entry lie in the ranges of R35. -/
def maximaInRange (m : Measures) : Bool :=
  decide (m.film ≤ 1000 ∧ m.turbidity ≤ 4000 ∧ m.conductivity ≤ 20000 ∧ m.depth ≤ 500)

/-- WRITE_LIMITS (R36). -/
def ownWriteLimits (r : Request) (s : State) : Taken :=
  match r.payload with
  | [n, f0, f1, t0, t1, c0, c1, d0, d1, q] =>
    match index? 31 n.toNat, flag? q with
    | some i, some required =>
      let m : Measures := ⟨read2 f0 f1, read2 t0 t1, read2 c0 c1, read2 d0 d1⟩
      if maximaInRange m then accept [] { s with limits := put s.limits i ⟨m, required⟩ } else refuse .badArg s
    | _, _ => refuse .badArg s
  | _ => refuse .badArg s

/-- READ_LIMITS (R36). -/
def ownReadLimits (r : Request) (s : State) : Taken :=
  match r.payload with
  | [n] =>
    match index? 31 n.toNat with
    | none => refuse .badArg s
    | some i => accept (measureBytes (s.limits[i]).maxima ++ [flag (s.limits[i]).inspectionRequired]) s
  | _ => refuse .badArg s

/-- OPEN_YARD (R38). -/
def ownOpenYard (r : Request) (s : State) : Taken :=
  match r.payload with
  | [] => accept [] { s with yardOpen := true }
  | _ => refuse .badArg s

/-! ## The staging buffer (R41, R45 to R50) -/

/-- The fields of a step lie in their ranges and agree (R41, R47). -/
def stepAllowed (x : RecipeStep) : Bool :=
  decide ((1 ≤ x.amount ∧ (x.mode = .metered → x.amount ≤ 5000) ∧ (x.mode ≠ .metered → x.amount ≤ 3600))
    ∧ x.extraPasses ≤ 15
    ∧ (x.supply = .hot → 1 ≤ x.hotUnits ∧ x.hotUnits ≤ 3) ∧ (x.supply ≠ .hot → x.hotUnits = 0)
    ∧ (x.mode = .metered → 10 ≤ x.guard ∧ x.guard ≤ 3600 ∧ (x.supply = .cold ∨ x.supply = .hot))
    ∧ (x.mode ≠ .metered → x.guard = 0))

/-- A step as its ten bytes carry it (R190), when it is allowed. -/
def step? (l : List Byte) : Option RecipeStep :=
  match l with
  | [su, d, dr, hu, mo, a0, a1, ex, g0, g1] =>
    match supply? su, flag? d, flag? dr, mode? mo with
    | some supply, some dose, some drain, some mode =>
      let x : RecipeStep :=
        { supply := supply, dose := dose, drain := drain, hotUnits := hu.toNat, mode := mode,
          amount := read2 a0 a1, extraPasses := ex.toNat, guard := read2 g0 g1 }
      if stepAllowed x then some x else none
    | _, _, _, _ => none
  | _ => none

/-- CLEAR_STAGING (R46). -/
def ownClearStaging (r : Request) (s : State) : Taken :=
  match r.payload with
  | [] => accept [] { s with staging := Staging.empty }
  | _ => refuse .badArg s

/-- A step stored at a position, which may raise the step count (R47). -/
def Staging.write (x : Staging) (n : Fin 12) (st : RecipeStep) : Staging :=
  { x with stepCount := max x.stepCount (number n), positions := put x.positions n (some st) }

/-- WRITE_STAGING_STEP (R47). -/
def ownWriteStagingStep (r : Request) (s : State) : Taken :=
  match r.payload with
  | n :: fields =>
    match index? 12 n.toNat, step? fields with
    | some i, some st => accept [] { s with staging := s.staging.write i st }
    | _, _ => refuse .badArg s
  | [] => refuse .badArg s

/-- SET_STAGING_ROUNDS (R48). -/
def ownSetStagingRounds (r : Request) (s : State) : Taken :=
  match r.payload with
  | [n] =>
    if 1 ≤ n.toNat ∧ n.toNat ≤ 4 then accept [] { s with staging := { s.staging with rounds := n.toNat } }
    else refuse .badArg s
  | _ => refuse .badArg s

/-- The staging buffer that holds a slot's recipe (R49). -/
def Staging.load (x : Recipe) : Staging :=
  { stepCount := x.steps.length, rounds := x.rounds, positions := Vector.ofFn fun i : Fin 12 => x.steps[i.val]? }

/-- LOAD_STAGING (R49). -/
def ownLoadStaging (r : Request) (s : State) : Taken :=
  match r.payload with
  | [n] =>
    match index? 15 n.toNat with
    | none => refuse .badArg s
    | some i =>
      match s.recipe i with
      | none => refuse .noSuch s
      | some x => accept [] { s with staging := Staging.load x }
  | _ => refuse .badArg s

/-- The positions 1 to the step count. -/
def Staging.used (x : Staging) : List (Option RecipeStep) := x.positions.toList.take x.stepCount

/-- READ_STAGING: step count, round count, and each position up to the step count (R50; log 21). -/
def ownReadStaging (r : Request) (s : State) : Taken :=
  match r.payload with
  | [] =>
    accept ([byte s.staging.stepCount, byte s.staging.rounds] ++ (s.staging.used.map positionBytes).flatten) s
  | _ => refuse .badArg s

/-! ## Recipe slots (R50 to R53) -/

/-- A slot is in use by records (R51). -/
def usedByRecords (s : State) (x : RecipeSlot) : Bool :=
  (List.finRange 96).any fun i =>
    decide ((s.comp i).state = .queued ∨ (s.comp i).state = .washing)
      && (s.comp i).plan.any fun p => decide (p.slot = x)

/-- A slot is in use by a rehearsal (R51). -/
def usedByRehearsal (s : State) (x : RecipeSlot) : Bool :=
  (List.finRange 8).any fun c => decide ((s.chan c).rehearsal = some x)

/-- A slot is named by the matrix (R51). -/
def namedByMatrix (s : State) (x : RecipeSlot) : Bool :=
  (List.finRange 32).any fun a => (List.finRange 32).any fun b => decide (s.cell a b = .slot x)

/-- COMMIT_RECIPE: the checks of R52 in order. -/
def ownCommitRecipe (r : Request) (s : State) : Taken :=
  match r.payload with
  | [n] =>
    match index? 15 n.toNat with
    | none => refuse .badArg s
    | some i =>
      match readAll id s.staging.used with
      | none => refuse .badArg s
      | some steps =>
        if s.staging.stepCount = 0 then refuse .badArg s
        else if usedByRecords s i || usedByRehearsal s i then refuse .inUse s
        else accept [] { s with recipes := put s.recipes i (some ⟨s.staging.rounds, steps⟩) }
  | _ => refuse .badArg s

/-- ERASE_RECIPE: the checks of R53 in order. -/
def ownEraseRecipe (r : Request) (s : State) : Taken :=
  match r.payload with
  | [n] =>
    match index? 15 n.toNat with
    | none => refuse .badArg s
    | some i =>
      if (s.recipe i).isNone then refuse .noSuch s
      else if usedByRecords s i || usedByRehearsal s i || namedByMatrix s i then refuse .inUse s
      else accept [] { s with recipes := put s.recipes i none }
  | _ => refuse .badArg s

/-- The OK answer of READ_RECIPE after the result code: EMPTY is 1, DEFINED is 2 (R40, R50, R190). -/
def recipeBytes (x : Option Recipe) : List Byte :=
  match x with
  | none => [1]
  | some x => [2, byte x.rounds] ++ listBytes stepBytes x.steps

/-- READ_RECIPE (R50). -/
def ownReadRecipe (r : Request) (s : State) : Taken :=
  match r.payload with
  | [n] =>
    match index? 15 n.toNat with
    | none => refuse .badArg s
    | some i => accept (recipeBytes (s.recipe i)) s
  | _ => refuse .badArg s

/-! ## Yard settings (R185) -/

/-- SET_YARD (R185). -/
def ownSetYard (r : Request) (s : State) : Taken :=
  match r.payload with
  | [n, a, b, c] =>
    match Setting.ofId? n.toNat with
    | none => refuse .badArg s
    | some x =>
      if x.inRange (read3 a b c) then accept [] { s with settings := put s.settings x.index (read3 a b c) }
      else refuse .badArg s
  | _ => refuse .badArg s

/-- READ_YARD (R185). -/
def ownReadYard (r : Request) (s : State) : Taken :=
  match r.payload with
  | [n] =>
    match Setting.ofId? n.toNat with
    | none => refuse .badArg s
    | some x => accept (word3 (s.setting x)) s
  | _ => refuse .badArg s

/-! ## Meanings -/

def execWriteMatrixRow (r : Request) (s : State) : Result := takeRequest .writeMatrixRow r (ownWriteMatrixRow r) s
def execReadMatrixRow (r : Request) (s : State) : Result := takeRequest .readMatrixRow r (ownReadMatrixRow r) s
def execWriteLimits (r : Request) (s : State) : Result := takeRequest .writeLimits r (ownWriteLimits r) s
def execReadLimits (r : Request) (s : State) : Result := takeRequest .readLimits r (ownReadLimits r) s
def execOpenYard (r : Request) (s : State) : Result := takeRequest .openYard r (ownOpenYard r) s
def execClearStaging (r : Request) (s : State) : Result := takeRequest .clearStaging r (ownClearStaging r) s
def execWriteStagingStep (r : Request) (s : State) : Result :=
  takeRequest .writeStagingStep r (ownWriteStagingStep r) s
def execSetStagingRounds (r : Request) (s : State) : Result :=
  takeRequest .setStagingRounds r (ownSetStagingRounds r) s
def execLoadStaging (r : Request) (s : State) : Result := takeRequest .loadStaging r (ownLoadStaging r) s
def execReadStaging (r : Request) (s : State) : Result := takeRequest .readStaging r (ownReadStaging r) s
def execCommitRecipe (r : Request) (s : State) : Result := takeRequest .commitRecipe r (ownCommitRecipe r) s
def execEraseRecipe (r : Request) (s : State) : Result := takeRequest .eraseRecipe r (ownEraseRecipe r) s
def execReadRecipe (r : Request) (s : State) : Result := takeRequest .readRecipe r (ownReadRecipe r) s
def execSetYard (r : Request) (s : State) : Result := takeRequest .setYard r (ownSetYard r) s
def execReadYard (r : Request) (s : State) : Result := takeRequest .readYard r (ownReadYard r) s

end Sys2Proof.Machine
end

