-- ==== Sys2Proof/Machine/Readings.lean ====
section
/-! DEFINITION. Requests that read several cells of the matrix or entries of the limit table, each at its own moment, and what can come
between two of their readings (R34; log 31). -/

namespace Sys2Proof.Machine

open Sys2Proof (Byte Comp Tanker Bay Chan RecipeSlot CargoClass Line Lane Port)

/-- What comes between two readings is taken whole, as its own command is (R34, R178). A port that holds a request discards a write as
an overrun. -/
def takeBetween (s : State) : Between → State
  | .writeMatrixRow r => serveRequest .writeMatrixRow r (ownWriteMatrixRow r) s
  | .writeLimits r => serveRequest .writeLimits r (ownWriteLimits r) s
  | .answerSent p => s.modPort p StationPort.sent

/-- A state in the middle of a request, and what is to come before each of the readings that the request has still to make. -/
abbrev Amid := State × List (List Between)

/-- The moment of the next reading (R34). -/
def Amid.next (x : Amid) : Amid := ((x.2.headD []).foldl takeBetween x.1, x.2.drop 1)

end Sys2Proof.Machine
end

