-- ==== Sys2Proof/Machine/Bays.lean ====
section
/-! DEFINITION. The bay dispatcher: dispatch attempts, parking and unparking, and the meanings of PARK, UNPARK, EXPEDITE,
REQUEST_DISPATCH, DISPATCH_ATTEMPT, CANCEL_BINDING and READ_BAY (chapter 4). -/

namespace Sys2Proof.Machine

/-! ## Dispatch (R66 to R68) -/

/-- Where a dispatch attempt puts the record at the front (R67). -/
inductive Placement where
  | head (c : Chan)
  | pair
  deriving DecidableEq, Repr

/-- How many channels a placement binds (R69). -/
def Placement.channels : Placement → Nat
  | .head _ => 1
  | .pair => 2

/-- A channel counts as idle when it is in state IDLE (R67). -/
def isIdle (s : State) (c : Chan) : Bool := decide ((s.chan c).state = .idle)

/-- The placement of a record in a bay, or none when it cannot be bound (R67). The front of a queue is QUEUED by the law of R63; a
binding leads from QUEUED alone (1.12), so another record would not be bound (log 24). -/
def placement (s : State) (b : Bay) (i : Comp) : Option Placement :=
  if (s.comp i).state ≠ .queued then none
  else if (s.comp i).hatches = 2 then
    if isIdle s (headA b) && isIdle s (headB b) then some .pair else none
  else if isIdle s (headA b) then some (.head (headA b))
  else if isIdle s (headB b) then some (.head (headB b))
  else none

/-- A channel goes from IDLE to BOUND, and CHANNEL_BOUND is raised for its head (R68). -/
def bindChannel (i : Comp) (c : Chan) (role : Role) (s : State) : State :=
  raiseChannelBound c (s.modChan c fun x => { x with state := .bound, binding := some ⟨i, role⟩ })

/-- The record at the front is bound: it leaves the queue and is WASHING with expedite no (R8, R68). -/
def bindFront (b : Bay) (i : Comp) (x : Placement) (s : State) : State :=
  let t := s.modBay b fun y => { y with queue := y.queue.drop 1 }
  match x with
  | .head c =>
    bindChannel i c .single
      (t.modComp i fun r => { r with state := .washing, binding := some (.single c), expedite := false })
  | .pair =>
    bindChannel i (headB b) .partner
      (bindChannel i (headA b) .lead
        (t.modComp i fun r => { r with state := .washing, binding := some (.pair b), expedite := false }))

/-- An attempt binds fronts until the queue is empty or its front cannot be bound (R67). The first argument bounds the bindings by
the length of the queue; the second component counts the channels bound. -/
def bindFronts : Nat → Bay → State → State × Nat
  | 0, _, s => (s, 0)
  | n + 1, b, s =>
    match (s.bay b).queue with
    | [] => (s, 0)
    | i :: _ =>
      match placement s b i with
      | none => (s, 0)
      | some x =>
        let (t, k) := bindFronts n b (bindFront b i x s)
        (t, k + x.channels)

/-- One dispatch attempt in a bay; a bay with no parked tanker binds nothing (R66, R67). -/
def dispatch (b : Bay) (s : State) : State × Nat :=
  if (s.bay b).parked.isNone then (s, 0) else bindFronts (s.bay b).queue.length b s

/-- DISPATCH_ATTEMPT: an attempt that an event of R66 has caused in the bay is made; with none caused there is nothing to make
(log 17). -/
def dispatchOwed (b : Bay) (s : State) : State :=
  if (s.bay b).owed = 0 then s else (dispatch b (s.modBay b fun y => { y with owed := y.owed - 1 })).1

/-! ## Parking (R59 to R62) -/

/-- The compartment states of a tanker in position order. -/
def stateCodes (s : State) (l : List Comp) : List Byte := l.map fun i => byte (s.comp i).state.code

/-- One record of a PARK: BOOKED with a next class, it is queued in on its cell, and for a NONE cell on its limit entry, each read at its
own moment; any other record is left as it is (R7, R34, R37, R60; log 31). -/
def queueInNext (b : Bay) (x : Amid) (i : Comp) : Amid :=
  let r := x.1.comp i
  match r.nextClass with
  | none => x
  | some next =>
    if r.state = .booked then
      let y := x.next
      let cell := y.1.cell r.lastClass next
      let z := if cell = .none then y.next else y
      (queueInOn cell b i z.1, z.2)
    else x

/-- The BOOKED records of a tanker that have a next class are queued in one after the other in position order (R7, R60), with what comes
between their readings (R34). -/
def queueInAll (b : Bay) (l : List Comp) (between : List (List Between)) (s : State) : State :=
  (l.foldl (queueInNext b) (s, between)).1

/-- The effect of an accepted PARK, with the dispatch attempt it causes (R18, R60, R66). -/
def parkTanker (b : Bay) (i : Tanker) (t : TankerData) (between : List (List Between)) (s : State) : State :=
  oweAttempt b
    (queueInAll b t.compartments between
      ((s.setTanker i (some { t with bay := some b })).modBay b fun y => { y with parked := some i }))

/-- Some compartment of a tanker is in a state. -/
def anyIn (s : State) (t : TankerData) (x : Lifecycle) : Bool :=
  t.compartments.any fun i => decide ((s.comp i).state = x)

/-- PARK: the checks of R59 in order. -/
def ownPark (x : ReadingRequest) (s : State) : Taken :=
  whenOpen s <|
    match portRole x.request.port, x.request.payload with
    | .bay b, [n] =>
      nameTanker n s fun i t =>
        if t.bay.isSome then refuse .wrongState s
        else if anyIn s t .filling then refuse .wrongState s
        else if (s.bay b).parked.isSome then refuse .busy s
        else if !(s.bay b).twoHead && t.compartments.any (fun k => decide ((s.comp k).hatches = 2)) then
          refuse .unfit s
        else
          let u := parkTanker b i t x.between s
          accept (byte t.compartments.length :: stateCodes u t.compartments) u
    | _, _ => refuse .badArg s

/-- A QUEUED record goes back to BOOKED at UNPARK (R18, R62). -/
def unqueueRecord (s : State) (i : Comp) : State :=
  if (s.comp i).state = .queued then
    s.modComp i fun r => { r with state := .booked, plan := none, expedite := false }
  else s

/-- The effect of an accepted UNPARK (R62). -/
def unparkTanker (b : Bay) (i : Tanker) (t : TankerData) (s : State) : State :=
  ((t.compartments.foldl unqueueRecord s).setTanker i (some { t with bay := none })).modBay b
    fun y => { y with parked := none, queue := [] }

/-- A channel holds UNPARK off (R61). -/
def holdsUnpark (s : State) (c : Chan) : Bool :=
  match (s.chan c).state with
  | .bound | .claiming | .running | .paused | .stopping => true
  | .unfitted | .idle | .fault | .service => false

/-- UNPARK: the checks of R61 in order. -/
def ownUnpark (r : Request) (s : State) : Taken :=
  match r.payload with
  | [n] =>
    nameTanker n s fun i t =>
      match portRole r.port, t.bay with
      | .office, none => refuse .wrongState s
      | .fill, _ => refuse .notPermitted s
      | .bay _, none => refuse .notPermitted s
      | role, some b =>
        if role ≠ .office ∧ role ≠ .bay b then refuse .notPermitted s
        else if holdsUnpark s (headA b) || holdsUnpark s (headB b) then refuse .busy s
        else if anyIn s t .inspecting then refuse .busy s
        else
          accept [byte (t.compartments.countP fun k => decide ((s.comp k).state = .queued))]
            (unparkTanker b i t s)
  | _ => refuse .badArg s

/-! ## Queue and bindings (R65, R69 to R72) -/

/-- EXPEDITE: the record moves to the front of its bay queue, and a dispatch attempt is caused (R65, R66). -/
def ownExpedite (r : Request) (s : State) : Taken :=
  match r.payload with
  | [n] =>
    nameComp n s fun i x =>
      if x.state ≠ .queued then refuse .wrongState s
      else
        let t := s.modComp i fun y => { y with expedite := true }
        match parkedBay i s with
        | none => accept [] t
        | some b =>
          accept [] (oweAttempt b (t.modBay b fun y => { y with queue := i :: y.queue.filter fun k => decide (k ≠ i) }))
  | _ => refuse .badArg s

/-- The bay that a REQUEST_DISPATCH names: the port's own with no argument, from the Office port the number it carries (R69). -/
def dispatchBay? (r : Request) : Option Bay :=
  match portRole r.port, r.payload with
  | .bay b, [] => some b
  | .office, [n] => index? 4 n.toNat
  | _, _ => none

/-- REQUEST_DISPATCH (R69). -/
def ownRequestDispatch (r : Request) (s : State) : Taken :=
  match dispatchBay? r with
  | none => refuse .badArg s
  | some b => accept [byte (dispatch b s).2] (dispatch b s).1

/-- CANCEL_BINDING (R70): judged on the lead, which must be BOUND or CLAIMING with a binding. -/
def ownCancelBinding (r : Request) (s : State) : Taken :=
  match r.payload with
  | [n] =>
    nameChannel r.port n s fun c =>
      let x := s.chan (leadOf s c)
      if x.binding.isSome ∧ (x.state = .bound ∨ x.state = .claiming) then
        accept [] (giveBindingBack (leadOf s c) s)
      else refuse .wrongState s
  | _ => refuse .badArg s

/-- A head as READ_BAY reports it: its state and the record bound to it (R72). -/
def headBytes (s : State) (c : Chan) : List Byte :=
  [byte (s.chan c).state.code, byte ((s.chan c).binding.elim 0 fun b => number b.comp)]

/-- The OK answer of READ_BAY after the result code (R72). -/
def bayBytes (s : State) (b : Bay) : List Byte :=
  [byte (if (s.bay b).twoHead then 2 else 1), numberOr0 (s.bay b).parked]
    ++ listBytes (fun i => [byte (number i), flag (s.comp i).expedite]) (s.bay b).queue
    ++ headBytes s (headA b) ++ headBytes s (headB b)

/-- READ_BAY (R72). -/
def ownReadBay (r : Request) (s : State) : Taken :=
  match r.payload with
  | [n] =>
    match index? 4 n.toNat with
    | none => refuse .badArg s
    | some b => accept (bayBytes s b) s
  | _ => refuse .badArg s

/-! ## Meanings -/

def execPark (x : ReadingRequest) (s : State) : Result := takeRequest .park x.request (ownPark x) s
def execUnpark (r : Request) (s : State) : Result := takeRequest .unpark r (ownUnpark r) s
def execExpedite (r : Request) (s : State) : Result := takeRequest .expedite r (ownExpedite r) s
def execRequestDispatch (r : Request) (s : State) : Result :=
  takeRequest .requestDispatch r (ownRequestDispatch r) s
def execDispatchAttempt (b : Bay) (s : State) : Result := live s (dispatchOwed b)
def execCancelBinding (r : Request) (s : State) : Result := takeRequest .cancelBinding r (ownCancelBinding r) s
def execReadBay (r : Request) (s : State) : Result := takeRequest .readBay r (ownReadBay r) s

end Sys2Proof.Machine
end

