-- ==== Sys2Proof/Machine/ChannelEvents.lean ====
section
/-! DEFINITION. The events on the wash channels: expiries, flow meter pulses, the discharge permit, the wash head and drain-down
(chapter 5). -/

namespace Sys2Proof.Machine

/-- A pass timed by its pass timer: TIMED, or METERED in a rehearsal (R80, R94). -/
def timedPass (s : State) (c : Chan) (st : RecipeStep) : Bool :=
  match st.mode with
  | .timed => true
  | .metered => rehearses s c
  | .demand => false

/-- PASS_TIMER_EXPIRY: the pass timer of a RUNNING channel has reached the amount, and the pass ends (R80, R81). -/
def passTimerOut (named : Chan) (s : State) : State :=
  let c := leadOf s named
  match runOf s c, stepOf s c with
  | some r, some st =>
    if (s.chan c).state = .running ∧ timedPass s c st ∧ st.amount ≤ r.passTimer then endPass c s else s
  | _, _ => s

/-- RUNNING_TIME_EXPIRY: the running time of a DEMAND pass has reached the amount, and the pass ends (R80, R81). -/
def runningTimeOut (named : Chan) (s : State) : State :=
  let c := leadOf s named
  match runOf s c, stepOf s c with
  | some r, some st =>
    if (s.chan c).state = .running ∧ st.mode = .demand ∧ st.amount ≤ r.runningTime then endPass c s else s
  | _, _ => s

/-- FLOW_METER_PULSE: counted while RUNNING in a METERED step. In a real run the amount ends the pass of a single head; in a pair it
sets head done, and the pass ends when both heads have it (R80, R91); a rehearsal's pass is timed instead (R94). -/
def flowPulse (c : Chan) (s : State) : State :=
  match stepOf s c with
  | none => s
  | some st =>
    if (s.chan c).state = .running ∧ st.mode = .metered then
      let n := countUp Config.countStop (s.chan c).meter
      let t := s.modChan c fun x => { x with meter := n }
      if rehearses s c ∨ n < st.amount then t
      else if isPair s c then
        let u := t.modChan c fun x => { x with headDone := true }
        if !(s.chan c).headDone && (s.chan (otherHead c)).headDone then endPass (leadOf s c) u else u
      else endPass c t
    else s

/-- Which heads fault at a guard expiry, the short ones first: FLOW_SHORT, or PARTNER_FAULT for a head already done (R80, R91,
R92). -/
def guardReasons (s : State) (c : Chan) : List (Chan × Reason) :=
  let short := (headsOf s c).filter fun h => !(s.chan h).headDone
  let done := (headsOf s c).filter fun h => (s.chan h).headDone
  (short.map fun h => (h, Reason.flowShort)) ++ done.map fun h => (h, Reason.partnerFault)

/-- GUARD_EXPIRY: the guard timer of a METERED pass of a real run has reached the guard with the amount not counted (R80, R91). -/
def guardOut (named : Chan) (s : State) : State :=
  let c := leadOf s named
  match runOf s c, stepOf s c with
  | some r, some st =>
    if (s.chan c).state = .running ∧ st.mode = .metered ∧ ¬rehearses s c ∧ st.guard ≤ r.passTimer then
      stopRun c (guardReasons s c) s
    else s
  | _, _ => s

/-- The pass of a RUNNING channel or pair is not its step's first, and no second and no pulse has been counted in it: it has begun at
the end of the pass before it (R80, R81). -/
def passJustBegun (s : State) (c : Chan) : Bool :=
  match runOf s c, stepOf s c with
  | some r, some st =>
    decide (r.passCounter < st.extraPasses ∧ r.passTimer = 0 ∧ r.runningTime = 0)
      && (headsOf s c).all fun h => decide ((s.chan h).meter = 0)
  | _, _ => false

/-- The command says that the channel's pass end came together with the permit drop and was taken first, and the pass that it began
still stands at its start: that pass continues unjudged (R83, R99; log 30). Either head names its pair. -/
def continuesUnjudged (met : List Chan) (s : State) (c : Chan) : Bool :=
  met.any (fun d => decide (leadOf s d = c)) && passJustBegun s c

/-- The drop of DISCHARGE_PERMIT as one channel or pair takes it in RUNNING; the lead stands for its pair (R83, R90, R99). -/
def permitDropOn (met : List Chan) (s : State) (c : Chan) : State :=
  if (s.chan c).state = .running ∧ leadOf s c = c ∧ continuesUnjudged met s c = false then
    let (t, more) := judgeNoPermit c s
    takeReleases 9 more t
  else s

/-- The order in which the channels take a permit drop: those that the command names, then the others (log 14). -/
def dropOrder (order : List Chan) : List Chan :=
  order ++ (List.finRange 8).filter fun c => decide (c ∉ order)

/-- DISCHARGE_PERMIT_DROP (R83); DRAIN in STOPPING follows the level (R77, R88). -/
def permitDrop (d : PermitDrop) (s : State) : State :=
  (dropOrder d.order).foldl (permitDropOn d.met) { s with permit := false }

/-- A PAUSED channel at the permit's return: RUNNING again with its running time as it stood (R84). -/
def resume (x : WashChannel) : WashChannel :=
  if x.state = .paused then { x with state := .running, pauseTimer := 0, pauseDue := false } else x

/-- DISCHARGE_PERMIT_RETURN (R84); DRAIN in STOPPING follows the level (R77, R88). -/
def permitReturn (s : State) : State :=
  { s with permit := true, channels := Vector.ofFn fun c : Chan => resume (s.chan c) }

/-- PAUSE_LIMIT_EXPIRY: the pause timer was found at the pause limit at the last second tick (R84). -/
def pauseOut (named : Chan) (s : State) : State :=
  let c := leadOf s named
  if (s.chan c).state = .paused ∧ (s.chan c).pauseDue then stopRun c (sameReason s c .dischargeBlocked) s else s

/-- The HEAD_IN level of a channel. -/
def setHeadIn (c : Chan) (level : Bool) (s : State) : State := s.modChan c fun x => { x with headIn := level }

/-- A run in CLAIMING is forgotten: the claim is withdrawn and the channel or pair is BOUND again with no run context (R85). -/
def forgetRun (c : Chan) (s : State) : State :=
  withdrawClaim c (modHeads (headsOf s c) (fun x => { x with state := .bound, run := none }) s)

/-- HEAD_IN_DROP: the state of the channel decides (R85). -/
def headDrop (c : Chan) (s : State) : State :=
  let t := setHeadIn c false s
  if rehearses s c then t
  else
    match (s.chan c).state with
    | .claiming => forgetRun (leadOf t c) t
    | .running | .paused => stopRun (leadOf t c) (ownReason t c .headLifted) t
    | .unfitted | .idle | .bound | .stopping | .fault | .service => t

/-- DRAIN_DOWN_EXPIRY: the drain-down timer has reached the drain-down time in STOPPING (R88). -/
def drainOut (c : Chan) (s : State) : State :=
  if (s.chan c).state = .stopping ∧ (s.chan c).drainTime ≤ (s.chan c).drainTimer then endStopping c s else s

/-! ## Meanings -/

def execPassTimerExpiry (c : Chan) (s : State) : Result := live s (passTimerOut c)
def execRunningTimeExpiry (c : Chan) (s : State) : Result := live s (runningTimeOut c)
def execFlowMeterPulse (c : Chan) (s : State) : Result := live s (flowPulse c)
def execGuardExpiry (c : Chan) (s : State) : Result := live s (guardOut c)

/-- DISCHARGE_PERMIT_DROP; in reset the level alone is followed (log 22). -/
def execDischargePermitDrop (d : PermitDrop) (s : State) : Result :=
  .next (if s.resetPin then { s with permit := false } else permitDrop d s)

/-- DISCHARGE_PERMIT_RETURN; in reset the level alone is followed (log 22). -/
def execDischargePermitReturn (s : State) : Result :=
  .next (if s.resetPin then { s with permit := true } else permitReturn s)

def execPauseLimitExpiry (c : Chan) (s : State) : Result := live s (pauseOut c)

/-- HEAD_IN_DROP; in reset the level alone is followed (log 22). -/
def execHeadInDrop (c : Chan) (s : State) : Result :=
  .next (if s.resetPin then setHeadIn c false s else headDrop c s)

/-- HEAD_IN_RISE: the level rises, with no effect of its own (R85). -/
def execHeadInRise (c : Chan) (s : State) : Result := .next (setHeadIn c true s)

def execDrainDownExpiry (c : Chan) (s : State) : Result := live s (drainOut c)

end Sys2Proof.Machine
end

