-- ==== Sys2Proof/Machine/ChannelRequests.lean ====
section
/-! DEFINITION. The requests that the wash channels own: START_RUN, START_REHEARSAL, ABORT_RUN, CLEAR_FAULT, the service requests and
CHANNEL_STATUS (chapter 5). -/

namespace Sys2Proof.Machine

/-! ## Runs and rehearsals (R78, R87, R93, R94) -/

/-- START_RUN's first check: the channel is BOUND; for a pair both heads are BOUND to the same record (R78). -/
def readyToStart (s : State) (c : Chan) : Bool :=
  (headsOf s c).all fun h =>
    decide ((s.chan h).state = .bound
      ∧ ((s.chan h).binding.map fun b => b.comp) = ((s.chan c).binding.map fun b => b.comp))

/-- The plan of the record bound to a channel. -/
def boundPlan (s : State) (c : Chan) : Option Plan := (s.chan c).binding.bind fun b => (s.comp b.comp).plan

/-- A new run context stands in a channel (R78, R93). -/
def setRun (c : Chan) (slot : RecipeSlot) (rounds : Nat) (s : State) : State :=
  s.modChan c fun x =>
    { x with
      run := some { slot := slot, step := 1, passCounter := 0, rounds := rounds, passTimer := 0, runningTime := 0 } }

/-- START_RUN: the checks of R78 in order on the lead; then the run begins at step 1 from the record's rounds done. -/
def ownStartRun (r : Request) (s : State) : Taken :=
  whenOpen s <|
    match r.payload with
    | [n] =>
      nameChannel r.port n s fun named =>
        let c := leadOf s named
        if !readyToStart s c then refuse .wrongState s
        else if !(headsOf s c).all fun h => (s.chan h).headIn then refuse .notReady s
        else
          match boundPlan s c with
          | none => refuse .wrongState s
          | some p =>
            if !(s.recipe p.slot).all (recipeFits s.plant (isPair s c)) then refuse .unfit s
            else accept [] (beginStep c 1 (setRun c p.slot p.roundsDone s))
    | _ => refuse .badArg s

/-- START_REHEARSAL: the checks of R93 in order. -/
def ownStartRehearsal (r : Request) (s : State) : Taken :=
  whenOpen s <|
    match r.payload with
    | [n, k] =>
      nameChannel r.port n s fun c =>
        match index? 15 k.toNat with
        | none => refuse .badArg s
        | some slot =>
          if (s.chan c).state ≠ .idle then refuse .wrongState s
          else
            match s.recipe slot with
            | none => refuse .noSuch s
            | some x =>
              if !recipeFits s.plant false x then refuse .unfit s
              else
                accept []
                  (beginStep c 1 (setRun c slot 0 (s.modChan c fun y => { y with rehearsal := some slot })))
    | _ => refuse .badArg s

/-- ABORT_RUN: the state of the channel judged decides (R87, R94). -/
def ownAbortRun (r : Request) (s : State) : Taken :=
  match r.payload with
  | [n] =>
    nameChannel r.port n s fun named =>
      let c := leadOf s named
      match (s.chan c).state with
      | .bound => accept [] (giveBindingBack c s)
      | .claiming | .running | .paused => accept [] (stopRun c (sameReason s c .abortedByBay) s)
      | .unfitted | .idle | .stopping | .fault | .service => refuse .wrongState s
  | _ => refuse .badArg s

/-- CLEAR_FAULT (R89). -/
def ownClearFault (r : Request) (s : State) : Taken :=
  match r.payload with
  | [n] =>
    nameChannel r.port n s fun c =>
      if (s.chan c).state = .fault then accept [] (enterIdle c s) else refuse .wrongState s
  | _ => refuse .badArg s

/-! ## Service mode (R95 to R97) -/

/-- SERVICE_ENTER (R95). -/
def ownServiceEnter (r : Request) (s : State) : Taken :=
  match r.payload with
  | [n] =>
    nameChannel r.port n s fun c =>
      if (s.chan c).state = .idle then accept [] (s.modChan c fun x => { x with state := .service })
      else refuse .wrongState s
  | _ => refuse .badArg s

/-- SERVICE_LATCH (R96). -/
def ownServiceLatch (r : Request) (s : State) : Taken :=
  match r.payload with
  | [n, a, b, d, e, f] =>
    nameChannel r.port n s fun c =>
      match flag? a, flag? b, flag? d, flag? e, flag? f with
      | some cold, some hot, some steam, some dose, some drain =>
        accept [] (s.modChan c fun x => { x with latch := ⟨cold, hot, steam, dose, drain⟩ })
      | _, _, _, _, _ => refuse .badArg s
  | _ => refuse .badArg s

/-- SERVICE_CLAIM: the checks of R97 in order. -/
def ownServiceClaim (r : Request) (s : State) : Taken :=
  match r.payload with
  | [n, h, t, d] =>
    nameChannel r.port n s fun c =>
      let units : Units := ⟨h.toNat, t.toNat, d.toNat⟩
      if !units.fits ⟨8, 1, 2⟩ || decide (units = Units.zero) then refuse .badArg s
      else if (s.chan c).state ≠ .service then refuse .wrongState s
      else if (s.plant.claims[c]).isSome || (s.plant.grants[c]).isSome then refuse .busy s
      else if !units.fits s.plant.capacity then refuse .unfit s
      else accept [] (lodgeClaim c .service units s)
  | _ => refuse .badArg s

/-- SERVICE_RELEASE (R97). -/
def ownServiceRelease (r : Request) (s : State) : Taken :=
  match r.payload with
  | [n] =>
    nameChannel r.port n s fun c =>
      if (s.chan c).state = .service then accept [] (giveBack c s) else refuse .wrongState s
  | _ => refuse .badArg s

/-- SERVICE_EXIT: the lines close, the plant is given back, and the channel enters IDLE (R95). -/
def ownServiceExit (r : Request) (s : State) : Taken :=
  match r.payload with
  | [n] =>
    nameChannel r.port n s fun c =>
      if (s.chan c).state = .service then accept [] (giveBack c (enterIdle c s)) else refuse .wrongState s
  | _ => refuse .badArg s

/-! ## CHANNEL_STATUS (R98) -/

/-- The OK answer of CHANNEL_STATUS after the result code, its items in the order of R98. A run context and the plant of a partner
are those of its lead (R90, R98). -/
def channelBytes (s : State) (c : Chan) : List Byte :=
  let x := s.chan c
  let lead := leadOf s c
  let run := runOf s c
  [byte x.state.code, byte (x.binding.elim 0 fun b => number b.comp), byte (x.binding.elim 0 fun b => b.role.code),
    numberOr0 x.rehearsal]
    ++ [byte (run.elim 0 fun y => number y.slot), byte (run.elim 0 fun y => y.step),
      byte (run.elim 0 fun y => y.passCounter), byte (run.elim 0 fun y => y.rounds)]
    ++ word2 (run.elim 0 fun y => y.passTimer) ++ word2 (run.elim 0 fun y => y.runningTime)
    ++ word2 (s.chan lead).pauseTimer ++ [byte x.drainTimer]
    ++ word2 x.meter ++ [flag x.headDone, flag x.headIn, flag s.permit]
    ++ lineBytes (valveLines s c) ++ lineBytes x.latch
    ++ unitBytes (s.plant.claimUnits lead) ++ unitBytes (s.plant.grantUnits lead)
    ++ [byte (x.reason.elim 0 Reason.code)]

/-- CHANNEL_STATUS: an UNFITTED channel is reported, not refused, and a bay port may name a channel of another bay (R76, R98;
DEDUCED, log 32). -/
def ownChannelStatus (r : Request) (s : State) : Taken :=
  match r.payload with
  | [n] =>
    match index? 8 n.toNat with
    | none => refuse .badArg s
    | some c => accept (channelBytes s c) s
  | _ => refuse .badArg s

/-! ## Meanings -/

def execStartRun (r : Request) (s : State) : Result := takeRequest .startRun r (ownStartRun r) s
def execStartRehearsal (r : Request) (s : State) : Result := takeRequest .startRehearsal r (ownStartRehearsal r) s
def execAbortRun (r : Request) (s : State) : Result := takeRequest .abortRun r (ownAbortRun r) s
def execClearFault (r : Request) (s : State) : Result := takeRequest .clearFault r (ownClearFault r) s
def execServiceEnter (r : Request) (s : State) : Result := takeRequest .serviceEnter r (ownServiceEnter r) s
def execServiceLatch (r : Request) (s : State) : Result := takeRequest .serviceLatch r (ownServiceLatch r) s
def execServiceClaim (r : Request) (s : State) : Result := takeRequest .serviceClaim r (ownServiceClaim r) s
def execServiceRelease (r : Request) (s : State) : Result := takeRequest .serviceRelease r (ownServiceRelease r) s
def execServiceExit (r : Request) (s : State) : Result := takeRequest .serviceExit r (ownServiceExit r) s
def execChannelStatus (r : Request) (s : State) : Result := takeRequest .channelStatus r (ownChannelStatus r) s

end Sys2Proof.Machine
end

