-- ==== Sys2Proof/Machine/FillLanes.lean ====
section
/-! DEFINITION. The fill lanes: authorization, metering, the causes of valve close, settling, and the lane's requests and events
(chapter 9). -/

namespace Sys2Proof.Machine

/-- The VALVE output of a lane: open in ACTIVE (R161), closed in reset (R176). -/
def valveOpen (s : State) (l : Lane) : Bool := !s.resetPin && decide ((s.lane l).state = .active)

/-- The valve closes with a cause: the counter is captured and SETTLING begins with the settle time read now (R166, R169). -/
def FillLane.closeValve (x : FillLane) (cause : FillOutcome) (settleTime : Nat) : FillLane :=
  { x with
    state := .settling, capture := x.counter, cause := some cause, noFlow := 0, noFlowDue := false,
    settle := 0, settleTime := settleTime }

/-- A close cause taken in ACTIVE; in SETTLING and IDLE it has no effect (R166). -/
def closeLane (l : Lane) (cause : FillOutcome) (s : State) : State :=
  if (s.lane l).state = .active then s.modLane l fun x => x.closeValve cause (s.setting .settleTime) else s

/-! ## AUTHORIZE_FILL (R162, R163, R188) -/

/-- The product suits the certificate: its cleared class, or a class whose cell (cleared class, product) is NONE (R31). -/
def productSuits (s : State) (c : Option Certificate) (product : CargoClass) : Bool :=
  c.any fun x => decide (product = x.clearedClass) || decide (s.cell x.clearedClass product = .none)

/-- The effect of an accepted AUTHORIZE_FILL on the lane and the record (R14, R163). -/
def authorize (l : Lane) (x : FillContext) (s : State) : State :=
  (s.modLane l fun y =>
    { y with
      state := .active, context := some x, counter := 0, compare := x.volume, capture := 0,
      cause := none, lastOutcome := none, noFlow := 0, noFlowDue := false }).modComp x.comp
    fun r => { r with state := .filling }

/-- AUTHORIZE_FILL: the checks of R162 in order. -/
def ownAuthorizeFill (r : Request) (s : State) : Taken :=
  whenOpen s <|
    match r.payload with
    | [k, n, p, v0, v1] =>
      match index? 2 k.toNat, index? 96 n.toNat, class1? p with
      | some l, some i, some product =>
        if (s.lane l).state ≠ .idle then refuse .busy s
        else if (s.comp i).state = .free then refuse .noSuch s
        else if (s.comp i).state ≠ .cleared ∨ (parkedBay i s).isSome then refuse .wrongState s
        else if !(s.lane l).arm then refuse .notReady s
        else if !productSuits s (s.comp i).cert product then refuse .classMismatch s
        else if ¬(1 ≤ read2 v0 v1 ∧ read2 v0 v1 ≤ (s.comp i).capacity) then refuse .badArg s
        else accept [] (authorize l ⟨i, product, read2 v0 v1⟩ s)
      | _, _, _ => refuse .badArg s
    | _ => refuse .badArg s

/-! ## STOP_FILL and LANE_STATUS (R168, R171) -/

/-- STOP_FILL (R168). -/
def ownStopFill (r : Request) (s : State) : Taken :=
  match r.payload with
  | [k] =>
    nameLane k s fun l =>
      if (s.lane l).state = .active then accept [] (closeLane l .stopped s) else refuse .wrongState s
  | _ => refuse .badArg s

/-- The OK answer of LANE_STATUS after the result code, its items in the order of R171; the Timers item is two bytes, the no-flow timer
and then the settle timer, with 0 for one that is not running (log 21). -/
def laneBytes (s : State) (l : Lane) : List Byte :=
  let x := s.lane l
  [byte x.state.code, byte (x.context.elim 0 fun y => number y.comp), classByte (x.context.map fun y => y.product)]
    ++ word2 (x.context.elim 0 fun y => y.volume) ++ word2 x.counter ++ word2 x.compare ++ word2 x.capture
    ++ [byte (x.cause.elim 0 FillOutcome.code), byte (x.lastOutcome.elim 0 FillOutcome.code),
      byte x.noFlow, byte x.settle, flag (valveOpen s l), flag x.arm]

/-- LANE_STATUS (R171). -/
def ownLaneStatus (r : Request) (s : State) : Taken :=
  match r.payload with
  | [k] => nameLane k s fun l => accept (laneBytes s l) s
  | _ => refuse .badArg s

/-! ## Events (R164 to R170) -/

/-- A meter pulse (R161, R164). -/
def meterPulse (l : Lane) (s : State) : State :=
  let x := s.lane l
  let n := countUp Config.countStop x.counter
  match x.state with
  | .idle => s
  | .active =>
    let t := s.modLane l fun y => { y with counter := n, noFlow := 0, noFlowDue := false }
    if x.compare ≤ n then closeLane l .complete t else t
  | .settling => s.modLane l fun y => { y with counter := n }

/-- The no-flow timer has reached NO_FLOW_TIME at the last second tick (R165). -/
def noFlowOut (l : Lane) (s : State) : State := if (s.lane l).noFlowDue then closeLane l .noFlow s else s

/-- The ARM level of a lane. -/
def setArm (l : Lane) (level : Bool) (s : State) : State := s.modLane l fun x => { x with arm := level }

/-- The fill ends: it is reported to CT, the lane returns to IDLE and LANE_DONE is raised (R170). -/
def endFill (l : Lane) (s : State) : State :=
  let x := s.lane l
  let t :=
    match x.context, x.cause with
    | some c, some o => reportFill l c x.counter o s
    | _, _ => s
  raiseLaneDone l
    (t.modLane l fun y =>
      { y with state := .idle, context := none, cause := none, lastOutcome := x.cause, settle := 0, settleTime := 0 })

/-- The settle timer has reached the settle time in SETTLING (R169, R170). -/
def settleOut (l : Lane) (s : State) : State :=
  if (s.lane l).state = .settling ∧ (s.lane l).settleTime ≤ (s.lane l).settle then endFill l s else s

/-- A lane after a second tick (R160, R165, R169). -/
def tickLane (s : State) (l : Lane) : FillLane :=
  let x := s.lane l
  match x.state with
  | .idle => x
  | .active =>
    let n := countUp 120 x.noFlow
    { x with noFlow := n, noFlowDue := decide (s.setting .noFlowTime ≤ n) }
  | .settling => { x with settle := countUp 60 x.settle }

/-- A lane after a yard reset (R174). -/
def FillLane.afterYardReset (x : FillLane) : FillLane :=
  match x.state with
  | .idle => x
  | .active | .settling =>
    { x with
      state := .idle, context := none, cause := none, capture := x.counter, lastOutcome := some .interrupted,
      noFlow := 0, noFlowDue := false, settle := 0, settleTime := 0 }

/-! ## Meanings -/

def execAuthorizeFill (r : Request) (s : State) : Result := takeRequest .authorizeFill r (ownAuthorizeFill r) s
def execStopFill (r : Request) (s : State) : Result := takeRequest .stopFill r (ownStopFill r) s
def execLaneStatus (r : Request) (s : State) : Result := takeRequest .laneStatus r (ownLaneStatus r) s
def execLaneMeterPulse (l : Lane) (s : State) : Result := live s (meterPulse l)
def execNoFlowExpiry (l : Lane) (s : State) : Result := live s (noFlowOut l)

/-- ARM_DROP: the level falls, and an ACTIVE lane closes its valve (R167). In reset the level alone is followed (log 22). -/
def execArmDrop (l : Lane) (s : State) : Result :=
  .next (if s.resetPin then setArm l false s else closeLane l .armLost (setArm l false s))

/-- ARM_RISE: the level rises, with no effect on the lane (R161, R167). -/
def execArmRise (l : Lane) (s : State) : Result := .next (setArm l true s)

def execSettleExpiry (l : Lane) (s : State) : Result := live s (settleOut l)

end Sys2Proof.Machine
end

