-- ==== Sys2Proof/Machine/ClockEvents.lean ====
section
/-! DEFINITION. The yard clock and what its ticks bring: second ticks with the token charge, minute ticks with the examination of
certificates, refreshes, and the clock of an idle part (R108, R109, R154). -/

namespace Sys2Proof.Machine

/-- The minute tick: the second count wraps, the minute count rises modulo 2^24, and CT examines every CLEARED record
(R13, R154). -/
def takeMinute (s : State) : State :=
  (List.finRange 96).foldl (fun t i => examineExpiry i t)
    { s with
      clock :=
        { s.clock with second := 0, minute := (s.clock.minute + 1) % Config.minuteModulus, minuteDue := false } }

/-- A refresh, with its arbitration pass (R109). -/
def takeRefresh (s : State) : State := arbitrate (s.setPlant s.plant.refreshTokens)

/-- The charges of a second tick, read from the lines, states and grants before any event of the tick (R108). -/
def tickCharges (s : State) : Vector Nat 8 := Vector.ofFn fun c : Chan => tokenCharge s c

/-- The blocks that time in seconds count the tick: channels, lanes, ports and the refresh timer (R154). -/
def countSecond (s : State) : State :=
  { s with
    channels := Vector.ofFn fun c : Chan => tickChannel s c
    lanes := Vector.ofFn fun l : Lane => tickLane s l
    ports := Vector.ofFn fun p : Port =>
      { s.port p with countingTime := countUp Config.countStop (s.port p).countingTime }
    plant := s.plant.countRefresh (s.setting .refreshPeriod) }

/-- The second count rises, or at its wrap the minute tick becomes due (R154; log 10). -/
def Clock.tick (c : Clock) : Clock :=
  if c.second + 1 < Config.secondsPerMinute then { c with period := 0, second := c.second + 1 }
  else { c with period := 0, minuteDue := true }

/-- SECOND_TICK. A minute tick still due from an earlier second tick is taken first (log 10). `refreshFirst` gives the order of a
refresh and the charge that fall on this tick (R109; log 11). -/
def takeSecond (refreshFirst : Bool) (s : State) : State :=
  let s0 := if s.clock.minuteDue then takeMinute s else s
  let s1 := countSecond s0
  let s2 := if refreshFirst && s1.plant.refreshDue then takeRefresh s1 else s1
  { s2.setPlant (s2.plant.chargeTokens (tickCharges s0)) with clock := s0.clock.tick }

/-- MINUTE_TICK: taken when a second tick has made it due (R154; log 10). -/
def minuteOut (s : State) : State := if s.clock.minuteDue then takeMinute s else s

/-- REFRESH: taken when the last second tick found the refresh timer at REFRESH_PERIOD (R109; log 9). -/
def refreshOut (s : State) : State := if s.plant.refreshDue then takeRefresh s else s

/-- An idle part: one period of the reference clock passes, up to the end of the second (R154; DESIGN CHOICE, log 1). -/
def idle (s : State) : State :=
  if s.resetPin then s
  else { s with clock := { s.clock with period := countUp (Config.periodsPerSecond - 1) s.clock.period } }

/-! ## Meanings -/

def execSecondTick (refreshFirst : Bool) (s : State) : Result := live s (takeSecond refreshFirst)
def execMinuteTick (s : State) : Result := live s minuteOut
def execRefresh (s : State) : Result := live s refreshOut

end Sys2Proof.Machine
end

