-- ==== Sys2Proof/Machine/CompartmentRequests.lean ====
section
/-! DEFINITION. The requests that the compartment table owns: BOOK, SET_NEXT_CLASS, DISPOSE, WITHDRAW, DEPART, TAKE_DEPARTURE,
READ_COMPARTMENT and READ_TANKER (chapter 1). -/

namespace Sys2Proof.Machine

/-! ## BOOK (R4, R5, R188) -/

/-- One compartment description of a BOOK (R4). -/
structure Description where
  capacity : Nat
  hatches : Nat
  lastClass : CargoClass
  nextClass : Option CargoClass
  deriving DecidableEq, Repr

/-- A next class as BOOK carries it: FFh is absent, 1..31 a class, anything else is refused (R188). -/
def nextClass? (n : Byte) : Option (Option CargoClass) :=
  if n = 0xFF then some none
  else match class1? n with
    | none => none
    | some c => some (some c)

/-- One description in its five bytes, each value in its range (R4, R188). -/
def description? (c0 c1 h last next : Byte) : Option Description :=
  match class0? last, nextClass? next with
  | some l, some x =>
    if 100 ≤ read2 c0 c1 ∧ read2 c0 c1 ≤ 30000 ∧ (h = 1 ∨ h = 2) then some ⟨read2 c0 c1, h.toNat, l, x⟩ else none
  | _, _ => none

/-- The descriptions that follow the count, `n` of them and nothing more (R188). -/
def descriptions? : Nat → List Byte → Option (List Description)
  | 0, [] => some []
  | n + 1, c0 :: c1 :: h :: last :: next :: rest =>
    match description? c0 c1 h last next, descriptions? n rest with
    | some d, some ds => some (d :: ds)
    | _, _ => none
  | _, _ => none

/-- The arguments of a BOOK: a fleet number 1..65535 and 1..8 descriptions (R4, R188). -/
def bookArgs? (payload : List Byte) : Option (Nat × List Description) :=
  match payload with
  | f0 :: f1 :: n :: rest =>
    if read2 f0 f1 ≠ 0 ∧ 1 ≤ n.toNat ∧ n.toNat ≤ 8 then (descriptions? n.toNat rest).map fun ds => (read2 f0 f1, ds)
    else none
  | _ => none

/-- A non-FREE entry carries the fleet number (R4). -/
def fleetInUse (s : State) (fleet : Nat) : Bool :=
  (List.finRange 16).any fun i => (s.tanker i).any fun t => decide (t.fleet = fleet)

/-- The cells of the descriptions that give a next class are read in position order, each at its own moment, up to the first that is
BARRED: whether there is one, and the state after the readings (R4, R34; log 31). -/
def readBarred : List Description → Amid → Bool × State
  | [], x => (false, x.1)
  | d :: ds, x =>
    match d.nextClass with
    | none => readBarred ds x
    | some c => if x.next.1.cell d.lastClass c = .barred then (true, x.next.1) else readBarred ds x.next

/-- The FREE tanker slots, lowest first. -/
def freeTankers (s : State) : List Tanker := (List.finRange 16).filter fun i => (s.tanker i).isNone

/-- The FREE records, lowest first. -/
def freeComps (s : State) : List Comp := (List.finRange 96).filter fun i => decide ((s.comp i).state = .free)

/-- The record that BOOK makes of a description (R5). -/
def bookedRecord (slot : Tanker) (position : Nat) (d : Description) : CompartmentRecord :=
  { CompartmentRecord.freed with
    state := .booked, tanker := slot, position := position, capacity := d.capacity,
    hatches := d.hatches, lastClass := d.lastClass, nextClass := d.nextClass }

/-- The records are assigned, in ascending order of index, to positions from `k` up (R5). -/
def bookRecords (slot : Tanker) : Nat → List Comp → List Description → State → State
  | k, i :: is, d :: ds, s => bookRecords slot (k + 1) is ds (s.setComp i (bookedRecord slot k d))
  | _, _, _, s => s

/-- The effect of a BOOK whose descriptions name no BARRED cell, with the last check of R4: the lowest FREE slot and records (R4, R5). -/
def bookTanker (fleet : Nat) (ds : List Description) (s : State) : Taken :=
  match freeTankers s with
  | [] => refuse .tableFull s
  | slot :: _ =>
    if (freeComps s).length < ds.length then refuse .tableFull s
    else
      let taken := (freeComps s).take ds.length
      let t := (bookRecords slot 1 taken ds s).setTanker slot
        (some { fleet := fleet, compartments := taken, arrival := s.clock.minute, bay := none })
      accept (byte (number slot) :: byte ds.length :: taken.map fun i => byte (number i)) t

/-- BOOK: the checks of R4 in order, then the effect of R5. The cells are read each at its own moment; BOOK holds the Office port, the one
port that writes the configuration store, so a write that comes between two of them is an overrun (R34, R178; log 31). -/
def ownBook (x : ReadingRequest) (s : State) : Taken :=
  whenOpen s <|
    match bookArgs? x.request.payload with
    | none => refuse .badArg s
    | some (fleet, ds) =>
      if fleetInUse s fleet then refuse .inUse s
      else
        let (barred, t) := readBarred ds (s, x.between)
        if barred then refuse .barred t else bookTanker fleet ds t

/-! ## SET_NEXT_CLASS and DISPOSE (R6, R16) -/

/-- The state of a record as an answer carries it. -/
def recordState (i : Comp) (s : State) : Taken := accept [byte (s.comp i).state.code] s

/-- SET_NEXT_CLASS (R6). -/
def ownSetNextClass (r : Request) (s : State) : Taken :=
  match r.payload with
  | [n, k] =>
    nameComp n s fun i x =>
      match class1? k with
      | none => refuse .badArg s
      | some c =>
        if x.state ≠ .booked then refuse .wrongState s
        else if s.cell x.lastClass c = .barred then refuse .barred s
        else recordState i (queueInAlone i (s.modComp i fun y => { y with nextClass := some c }))
  | _ => refuse .badArg s

/-- What DISPOSE leaves of a HELD record under either action (R16). -/
def disposed (x : CompartmentRecord) (next : Lifecycle) : CompartmentRecord :=
  { x with state := next, hold := none, plan := none, tries := 0 }

/-- DISPOSE: action 1 is REWASH, 2 is REINSPECT (R16, R190). -/
def ownDispose (r : Request) (s : State) : Taken :=
  match r.payload with
  | [n, a] =>
    nameComp n s fun i x =>
      if a ≠ 1 ∧ a ≠ 2 then refuse .badArg s
      else if x.state ≠ .held then refuse .wrongState s
      else if a = 1 then recordState i (queueInAlone i (s.setComp i (disposed x .booked)))
      else recordState i (s.setComp i (disposed x .inspectWait))
  | _ => refuse .badArg s

/-! ## WITHDRAW, DEPART and TAKE_DEPARTURE (R17, R19, R20) -/

/-- The states from which a record may be withdrawn (R17). -/
def mayWithdraw (x : Lifecycle) : Bool :=
  match x with
  | .booked | .inspectWait | .cleared | .held => true
  | .free | .queued | .washing | .inspecting | .filling | .filled | .withdrawn => false

/-- WITHDRAW (R17). -/
def ownWithdraw (r : Request) (s : State) : Taken :=
  match r.payload with
  | [n] =>
    nameComp n s fun i x =>
      if mayWithdraw x.state then
        accept [] (s.setComp i { x with state := .withdrawn, cert := none, hold := none, plan := none })
      else refuse .wrongState s
  | _ => refuse .badArg s

/-- The departure record of a compartment (R19). -/
def departureRecord (s : State) (t : TankerData) (i : Comp) : Departure :=
  let x := s.comp i
  { fleet := t.fleet, position := x.position, lastClass := x.lastClass, finalState := x.state,
    cert := x.cert, fill := x.fill, minute := s.clock.minute }

/-- A compartment in a state that holds its tanker in the yard (R19). -/
def holdsDeparture (x : Lifecycle) : Bool :=
  match x with
  | .washing | .inspecting | .filling => true
  | .free | .booked | .queued | .inspectWait | .cleared | .filled | .held | .withdrawn => false

/-- The effect of an accepted DEPART (R19). -/
def departTanker (i : Tanker) (t : TankerData) (s : State) : State :=
  let freed := t.compartments.foldl (fun u k => u.setComp k CompartmentRecord.freed) s
  raiseDeparture
    ({ freed with departures := s.departures ++ t.compartments.map (departureRecord s t) }.setTanker i none)

/-- DEPART (R19). -/
def ownDepart (r : Request) (s : State) : Taken :=
  match r.payload with
  | [n] =>
    nameTanker n s fun i t =>
      if t.bay.isSome then refuse .wrongState s
      else if t.compartments.any (fun k => holdsDeparture (s.comp k).state) then refuse .wrongState s
      else if Config.departureCapacity < s.departures.length + t.compartments.length then refuse .queueFull s
      else accept [byte t.compartments.length] (departTanker i t s)
  | _ => refuse .badArg s

/-- TAKE_DEPARTURE (R20). -/
def ownTakeDeparture (r : Request) (s : State) : Taken :=
  match r.payload with
  | [] =>
    match s.departures with
    | [] => accept [] s
    | d :: ds =>
      let t := { s with departures := ds }
      accept (departureBytes d) (if ds.isEmpty then t else raiseDeparture t)
  | _ => refuse .badArg s

/-! ## Reads (R21) -/

/-- READ_COMPARTMENT (R21, R189). -/
def ownReadCompartment (r : Request) (s : State) : Taken :=
  match r.payload with
  | [n] =>
    match index? 96 n.toNat with
    | none => refuse .badArg s
    | some i => accept (compartmentBytes i (s.comp i)) s
  | _ => refuse .badArg s

/-- READ_TANKER (R21). -/
def ownReadTanker (r : Request) (s : State) : Taken :=
  match r.payload with
  | [n] =>
    match index? 16 n.toNat with
    | none => refuse .badArg s
    | some i => accept (tankerBytes (s.tanker i)) s
  | _ => refuse .badArg s

/-! ## Meanings -/

def execBook (x : ReadingRequest) (s : State) : Result := takeRequest .book x.request (ownBook x) s
def execSetNextClass (r : Request) (s : State) : Result := takeRequest .setNextClass r (ownSetNextClass r) s
def execDispose (r : Request) (s : State) : Result := takeRequest .dispose r (ownDispose r) s
def execWithdraw (r : Request) (s : State) : Result := takeRequest .withdraw r (ownWithdraw r) s
def execDepart (r : Request) (s : State) : Result := takeRequest .depart r (ownDepart r) s
def execTakeDeparture (r : Request) (s : State) : Result := takeRequest .takeDeparture r (ownTakeDeparture r) s
def execReadCompartment (r : Request) (s : State) : Result :=
  takeRequest .readCompartment r (ownReadCompartment r) s
def execReadTanker (r : Request) (s : State) : Result := takeRequest .readTanker r (ownReadTanker r) s

end Sys2Proof.Machine
end

