-- ==== Sys2Proof/Machine/Probe.lean ====
section
/-! DEFINITION. The probe lines and the inspection unit at work: outputs, characters, the opening reply, blocks and exchanges, link
errors and closing, calibration, samples and judgement (chapters 7 and 8). -/

namespace Sys2Proof.Machine

/-! ## Outputs (R121) -/

/-- The field outputs of a probe line; `drivesData` says that the part drives PDAT with a character's bits. -/
structure LineOutputs where
  pwr : Bool
  prst : Bool
  pclk : Bool
  drivesData : Bool
  deriving DecidableEq, Repr

/-- A line drives its outputs from its state (R121), and stands off, low, stopped and released in reset (R176). The character
that it sends is `drivenCharacter`; the release of PDAT inside a character's error window and the drive of an error signal are shorter
than a step (log 13). -/
def lineOutputs (s : State) (l : Line) : LineOutputs :=
  if s.resetPin then ⟨false, false, false, false⟩
  else
    match (s.line l).state with
    | .detached | .docked | .closing => ⟨false, false, false, false⟩
    | .powering => ⟨true, false, false, false⟩
    | .resetting => ⟨true, false, true, false⟩
    | .opening | .ready | .awaiting | .receiving => ⟨true, true, true, false⟩
    | .sending => ⟨true, true, true, (s.line l).sending.any fun x => x.started⟩

/-- A line in a state from POWERING to RECEIVING, where link errors and closes are taken (R138, R139). -/
def LineState.inSession : LineState → Bool
  | .powering | .resetting | .opening | .ready | .sending | .awaiting | .receiving => true
  | .detached | .docked | .closing => false

/-! ## Bit periods, characters and checks (R125 to R128, R132) -/

/-- PCLK periods in one bit period at a speed code (R125). -/
def bitPeriod (speed : Nat) : Nat :=
  match speed with
  | 0 | 1 => 480
  | 2 => 240
  | 3 => 160
  | 4 => 120
  | 5 => 80
  | 6 => 60
  | _ => 40

/-- A timer started now, counting in the line's present bit period (R125). -/
def ProbeLine.timer (x : ProbeLine) (limit : Nat) : Option LineTimer := some ⟨limit, bitPeriod x.speed⟩

/-- The exclusive-or of a byte's bits: the parity bit that makes the ones even (R126). -/
def evenParity (b : Byte) : Bool := (List.finRange 8).foldl (fun p i => p ^^ b.getLsbD i.val) false

/-- The bits of a byte in the other order. -/
def reverseBits (b : Byte) : Byte :=
  BitVec.ofNat 8 ((List.finRange 8).foldl (fun n i => 2 * n + (if b.getLsbD i.val then 1 else 0)) 0)

/-- The byte that the data bits stand for under a bit order (R126). -/
def charValue (o : BitOrder) (wire : Byte) : Byte :=
  match o with
  | .lsbFirst => wire
  | .msbFirst => reverseBits wire

/-- The data bits that the part sends for a byte under a bit order, numbered as they are sent (R126). -/
def wireBits (o : BitOrder) (b : Byte) : Byte :=
  match o with
  | .lsbFirst => b
  | .msbFirst => reverseBits b

/-- The character that the part drives on PDAT in SENDING: the data bits of the first character left, in the line's bit order, and the
parity bit of this transmission (R121, R126, R127). -/
def drivenCharacter (s : State) (l : Line) : Option ProbeChar :=
  if (lineOutputs s l).drivesData then
    (s.line l).sending.map fun x => ⟨wireBits (s.line l).bitOrder (x.left.headD 0), x.parityBit⟩
  else none

/-- A received character has even parity (R126, R128). -/
def goodParity (c : ProbeChar) : Bool := decide (c.parity = evenParity c.wire)

/-- The exclusive-or of a run of bytes (R132). -/
def lrc (l : List Byte) : Byte := l.foldl (· ^^^ ·) 0

/-- One bit of the probe CRC: generator x^16 + x^12 + x^5 + 1, most significant bit first (R132). -/
def probeCrcBit (c : BitVec 16) : BitVec 16 := if c.getLsbD 15 then (c <<< 1) ^^^ 0x1021 else c <<< 1

/-- One byte of the probe CRC (R132). -/
def probeCrcByte (c : BitVec 16) (b : Byte) : BitVec 16 :=
  let x := c ^^^ (b.zeroExtend 16 <<< 8)
  probeCrcBit (probeCrcBit (probeCrcBit (probeCrcBit (probeCrcBit (probeCrcBit (probeCrcBit (probeCrcBit x)))))))

/-- The probe CRC of a run of bytes, from FFFFh with no final inversion (R132). -/
def probeCrc (l : List Byte) : BitVec 16 := l.foldl probeCrcByte 0xFFFF

/-- The check of a block: one LRC byte, or two CRC bytes, high byte first (R132). -/
def blockCheck (m : CheckMode) (l : List Byte) : List Byte :=
  match m with
  | .lrc => [lrc l]
  | .crc => [byte ((probeCrc l).toNat / 256), byte (probeCrc l).toNat]

/-- Control byte of an INFO block (R132). -/
def controlInfo : Byte := 0x10

/-- Control byte of a REPEAT block (R132). -/
def controlRepeat : Byte := 0x20

/-- Control byte of a WAIT block (R132). -/
def controlWait : Byte := 0x30

/-- A block that the part sends, route 1 (R132). -/
def blockTo (m : CheckMode) (control : Byte) (data : List Byte) : List Byte :=
  let l := 1 :: control :: byte data.length :: data
  l ++ blockCheck m l

/-! ## Opening and closing (R123, R124, R138, R139) -/

/-- An open request taken in DOCKED: the session items take their start values and the line enters POWERING (R123). -/
def ProbeLine.open (x : ProbeLine) (i : Comp) (powerUp : Nat) : ProbeLine :=
  { x with
    state := .powering, bound := some i, bitOrder := .lsbFirst, speed := 1, extraGuard := 0,
    checkMode := .lrc, maxLength := 0, exchange := Exchange.empty,
    timers := { LineTimers.stopped with powerUp := some ⟨powerUp, bitPeriod 1⟩ },
    transmissions := 0, badReceptions := 0, received := [], badLength := false, sending := none }

/-- The open request of IU; in any state but DOCKED it is returned unmade (R123). -/
def openLine (l : Line) (i : Comp) (s : State) : State :=
  if (s.line l).state = .docked then s.modLine l fun x => x.open i (s.setting .powerUpTime) else s

/-- Entry to CLOSING: the exchange is abandoned, the binding cleared, and the off timer starts (R138, R139). -/
def ProbeLine.close (x : ProbeLine) (off : Nat) : ProbeLine :=
  { x with
    state := .closing, bound := none, timers := { LineTimers.stopped with off := x.timer off },
    transmissions := 0, received := [], badLength := false, sending := none }

/-- A close request of IU, with an error to record or plain (R139). -/
def closeLine (l : Line) (error : Option LinkError) (s : State) : State :=
  if (s.line l).state.inSession then
    s.modLine l fun x => { x.close (s.setting .powerOffTime) with lastError := error.or x.lastError }
  else s

/-- An inspection ends, its line already closing: the outcome is written, INSPECTION_ENDED raised and the context absent (R144). -/
def finishInspection (l : Line) (x : Inspection) (o : InspectionOutcome) (s : State) : State :=
  raiseInspectionEnded x.bay l ((s.modLine l fun y => { y with lastResult := some o }).setInspection l none)

/-- A link error, taken in a session only: recorded, the line closes, and IU ends the inspection with a try counted
(R138, R150). -/
def linkError (l : Line) (e : LinkError) (s : State) : State :=
  if (s.line l).state.inSession then
    let t := closeLine l (some e) s
    match s.inspection l with
    | none => t
    | some x => finishInspection l x .linkError (reportLinkError x.comp t)
  else s

/-! ## Sending (R127, R133) -/

/-- A block is to be sent: SENDING, its first character waiting for the block guard (R133). -/
def ProbeLine.send (x : ProbeLine) (block : List Byte) : ProbeLine :=
  { x with
    state := .sending, sending := some ⟨block, false, false⟩, transmissions := 0, received := [],
    badLength := false, timers := { x.timers with charWait := none, blockWait := none } }

/-- The PARITY_INVERT setting of a line (R142). -/
def parityInvert (s : State) (l : Line) : Bool :=
  decide (s.setting (if l = 0 then .parityInvertPA else .parityInvertPB) ≠ 0)

/-- The MAX_SPEED setting of a line (R142). -/
def maxSpeed (s : State) (l : Line) : Nat := s.setting (if l = 0 then .maxSpeedPA else .maxSpeedPB)

/-- A transmission of the first character left begins, the n-th of that character; PARITY_INVERT is read at its start (R127). -/
def ProbeLine.transmit (x : ProbeLine) (n : Nat) (invert : Bool) : ProbeLine :=
  match x.sending with
  | none => x
  | some y =>
    { x with
      transmissions := n
      sending := some { y with started := true, parityBit := evenParity (y.left.headD 0) ^^ invert } }

/-- The last character has been sent: AWAITING, with the block wait timer (R133). -/
def ProbeLine.await (x : ProbeLine) (blockWait : Nat) : ProbeLine :=
  { x with
    state := .awaiting, sending := none, transmissions := 0, badReceptions := 0, received := [],
    timers := { x.timers with blockWait := x.timer (blockWait * x.exchange.factor.getD 1) } }

/-- The end of a character's error window (R127). -/
def endCharacter (l : Line) (errorSignal : Bool) (s : State) : State :=
  match (s.line l).state, (s.line l).sending with
  | .sending, some y =>
    if !y.started then s
    else if errorSignal then
      if 4 ≤ (s.line l).transmissions then linkError l .charRetry s
      else s.modLine l fun x => x.transmit (x.transmissions + 1) (parityInvert s l)
    else if (y.left.drop 1).isEmpty then s.modLine l fun x => x.await (s.setting .blockWait)
    else
      s.modLine l fun x =>
        { x with sending := some { y with left := y.left.drop 1 } }.transmit 1 (parityInvert s l)
  | _, _ => s

/-- The block guard has passed and the block begins (R133). -/
def startBlock (l : Line) (s : State) : State :=
  match (s.line l).state, (s.line l).sending with
  | .sending, some y =>
    if y.started then s
    else s.modLine l fun x => { x with timers := { x.timers with blockGuard := none } }.transmit 1 (parityInvert s l)
  | _, _ => s

/-! ## The inspection unit (R146 to R150) -/

/-- IU's exchange request; in any state but READY it is returned unmade (R133). -/
def requestExchange (l : Line) (data : List Byte) (s : State) : State :=
  if (s.line l).state = .ready then
    s.modLine l fun x =>
      let block := blockTo x.checkMode controlInfo data
      { x with exchange := { Exchange.empty with lastBlock := block } }.send block
  else s

/-- The MEASURE code (R148). -/
def measureCode : Byte := 0x21

/-- A MEASURE exchange (R148). -/
def measure (l : Line) (s : State) : State := requestExchange l [measureCode] s

/-- The line reports opened with the calibration age: CAL_EXPIRED above CAL_LIMIT, else the first MEASURE (R147). -/
def openedReport (l : Line) (age : Nat) (s : State) : State :=
  match s.inspection l with
  | none => s
  | some x =>
    if s.setting .calLimit < age then
      finishInspection l x .calExpired (reportNoJudgement x.comp (closeLine l none s))
    else measure l (s.setInspection l (some { x with phase := .sampling }))

/-- Two bytes of a reading, most significant first (R148). -/
def reading (a b : Byte) : Nat := 256 * a.toNat + b.toNat

/-- The readings of a MEASURE answer, when it passes the checks of R148. -/
def measureAnswer? (data : List Byte) : Option Measures :=
  match data with
  | [code, f1, f0, t1, t0, c1, c0, d1, d0, status] =>
    if code = measureCode ∧ status = 0 then some ⟨reading f1 f0, reading t1 t0, reading c1 c0, reading d1 d0⟩ else none
  | _ => none

/-- Each worst reading raised to a sample's (R149). -/
def Measures.worse (x y : Measures) : Measures :=
  ⟨max x.film y.film, max x.turbidity y.turbidity, max x.conductivity y.conductivity, max x.depth y.depth⟩

/-- The inspection is judged: PASS or FAIL against the snapshot (R149). -/
def judgeInspection (l : Line) (x : Inspection) (s : State) : State :=
  let failed := failedMeasures x.worst x.limits
  let t := closeLine l none s
  if failed.isEmpty then finishInspection l x .pass (reportPass x.comp x.worst t)
  else finishInspection l x .fail (reportFail x.comp x.worst failed t)

/-- The line reports exchange done with the probe's data (R148, R149). -/
def exchangeDone (l : Line) (data : List Byte) (s : State) : State :=
  match s.inspection l with
  | none => s
  | some x =>
    match measureAnswer? data with
    | none => finishInspection l x .linkError (reportLinkError x.comp (closeLine l (some .protocol) s))
    | some m =>
      let y := { x with taken := x.taken + 1, worst := x.worst.worse m }
      if y.taken < y.toTake then measure l (s.setInspection l (some y)) else judgeInspection l y s

/-! ## Receiving (R128 to R137) -/

/-- The reply has all its characters: sync, length N, N bytes and the LRC (R130). -/
def replyComplete (l : List Byte) : Bool := decide (2 ≤ l.length ∧ l.length = (l.getD 1 0).toNat + 3)

/-- Check bytes of a block (R132). -/
def CheckMode.size : CheckMode → Nat
  | .lrc => 1
  | .crc => 2

/-- The block has all its characters (R134). -/
def ProbeLine.blockComplete (x : ProbeLine) : Bool :=
  !x.badLength
    && decide (3 ≤ x.received.length ∧ x.received.length = (x.received.getD 2 0).toNat + 3 + x.checkMode.size)

/-- The opening reply is judged (R131). -/
def judgeReply (l : Line) (s : State) : State :=
  let x := s.line l
  let at' (i : Nat) : Nat := (x.received.getD i 0).toNat
  let n := at' 1
  if lrc ((x.received.drop 1).take (n + 1)) ≠ x.received.getD (n + 2) 0 then linkError l .openCheck s
  else if 7 < at' 9 ∨ 243 < at' 10 ∨ 1 < at' 11 ∨ at' 12 < 16 ∨ 64 < at' 12 then linkError l .protocol s
  else
    openedReport l (256 * at' 7 + at' 8)
      (s.modLine l fun y =>
        { y with
          state := .ready, speed := min (at' 9) (maxSpeed s l), extraGuard := at' 10,
          checkMode := if at' 11 = 0 then .lrc else .crc, maxLength := at' 12, received := [] })

/-- The repeat count rises and a block is sent, or at a third repeat the session ends (R137). -/
def repeatWith (l : Line) (block : List Byte) (s : State) : State :=
  if 3 ≤ (s.line l).exchange.repeats + 1 then linkError l .blockErrors s
  else
    s.modLine l fun x => { x with exchange := { x.exchange with repeats := x.exchange.repeats + 1 } }.send block

/-- A bad block is answered with REPEAT (R137). -/
def badBlock (l : Line) (s : State) : State := repeatWith l (blockTo (s.line l).checkMode controlRepeat []) s

/-- A WAIT block: the wait is extended and the block echoed, up to three in an exchange (R136). -/
def extendWait (l : Line) (factor : Byte) (s : State) : State :=
  if 3 ≤ (s.line l).exchange.waits then linkError l .waitLimit s
  else
    s.modLine l fun x =>
      let block := blockTo x.checkMode controlWait [factor]
      { x with
        exchange :=
          { x.exchange with
            waits := x.exchange.waits + 1, factor := some factor.toNat, lastBlock := block } }.send block

/-- A complete block is judged, row by row (R135). -/
def judgeBlock (l : Line) (s : State) : State :=
  let x := s.line l
  let n := (x.received.getD 2 0).toNat
  let covered := x.received.take (n + 3)
  let data := covered.drop 3
  let control := x.received.getD 1 0
  if blockCheck x.checkMode covered ≠ x.received.drop (n + 3) then badBlock l s
  else if x.received.getD 0 0 ≠ 2 ∨ (control ≠ controlInfo ∧ control ≠ controlRepeat ∧ control ≠ controlWait) then
    linkError l .protocol s
  else if control = controlRepeat then
    if n ≠ 0 then linkError l .protocol s else repeatWith l x.exchange.lastBlock s
  else if control = controlWait then
    if n ≠ 1 ∨ data.getD 0 0 = 0 ∨ 15 < (data.getD 0 0).toNat then linkError l .protocol s
    else extendWait l (data.getD 0 0) s
  else exchangeDone l data (s.modLine l fun y => { y with state := .ready, received := [] })

/-- OPENING_REPLY: a complete reply is judged; with none complete there is nothing to judge (R131). -/
def replyReceived (l : Line) (s : State) : State :=
  if (s.line l).state = .opening ∧ replyComplete (s.line l).received then judgeReply l s else s

/-- BLOCK_RECEIVED: a complete block is judged; with none complete there is nothing to judge (R135). -/
def blockReceived (l : Line) (s : State) : State :=
  if (s.line l).state = .receiving ∧ (s.line l).blockComplete then judgeBlock l s else s

/-- A character of bad parity is discarded and signalled; the fourth in a row at one place is link error PARITY (R128). -/
def badCharacter (l : Line) (s : State) : State :=
  let t := s.modLine l fun x => { x with badReceptions := x.badReceptions + 1 }
  if 4 ≤ (s.line l).badReceptions + 1 then linkError l .parity t else t

/-- The line notes a character: the character wait restarts and the block guard is read for the block that may follow
(R128, R133, R134). -/
def noteCharacter (l : Line) (s : State) : State :=
  s.modLine l fun x =>
    { x with
      timers :=
        { x.timers with
          charWait := x.timer (s.setting .charWait), blockGuard := x.timer (s.setting .blockGuard) } }

/-- A character of good parity takes its place (R128). -/
def ProbeLine.keep (x : ProbeLine) (b : Byte) : ProbeLine :=
  { x with received := x.received ++ [b], badReceptions := 0 }

/-- A character in OPENING: the first one ends the wait for sync and starts the opening timer; one of good parity sets the
bad-reception count to 0, also where a link error follows; the sync character decides the bit order; the length byte is checked; the
last one stops the reply's timers (R120, R124, R128 to R130). -/
def openingCharacter (l : Line) (c : ProbeChar) (s : State) : State :=
  let t := (noteCharacter l s).modLine l fun x =>
    { x with
      timers := { x.timers with sync := none, opening := x.timers.opening.or (x.timer (s.setting .openLimit)) } }
  if !goodParity c then badCharacter l t
  else
    let good := t.modLine l fun x => { x with badReceptions := 0 }
    let v := charValue (s.line l).bitOrder c.wire
    match (s.line l).received with
    | [] =>
      if v = 0xA6 then t.modLine l fun x => x.keep 0xA6
      else if v = 0x65 then t.modLine l fun x => { x.keep 0xA6 with bitOrder := .msbFirst }
      else linkError l .badSync good
    | [_] =>
      if 12 ≤ v.toNat ∧ v.toNat ≤ 20 then t.modLine l fun x => x.keep v else linkError l .protocol good
    | _ =>
      t.modLine l fun x =>
        let y := x.keep v
        if replyComplete y.received then { y with timers := { y.timers with opening := none, charWait := none } } else y

/-- A character in RECEIVING: bytes after a bad length are discarded, the length byte is checked against 64 and the session's maximum,
and the last character of the block stops the character wait (R134). -/
def blockCharacter (l : Line) (c : ProbeChar) (s : State) : State :=
  let t := noteCharacter l s
  if !goodParity c then badCharacter l t
  else
    t.modLine l fun x =>
      if x.badLength then { x with badReceptions := 0 }
      else
        let y := x.keep (charValue x.bitOrder c.wire)
        let n := (y.received.getD 2 0).toNat
        if y.received.length = 3 ∧ (64 < n ∨ y.maxLength < n) then { y with badLength := true }
        else if y.blockComplete then { y with timers := { y.timers with charWait := none } }
        else y

/-- The first start bit in AWAITING puts the line in RECEIVING, stops the block wait and clears the wait factor (R133, R135). -/
def ProbeLine.beginBlock (x : ProbeLine) : ProbeLine :=
  { x with
    state := .receiving, received := [], badLength := false,
    exchange := { x.exchange with factor := none }, timers := { x.timers with blockWait := none } }

/-- PROBE_CHARACTER_RECEIVED: a reply or block already complete is judged first (log 23); then the character is taken as the line's
state gives, and not looked at in SENDING or out of a powered session (R121, R128, R135). -/
def probeCharacter (l : Line) (c : ProbeChar) (s : State) : State :=
  let t := blockReceived l (replyReceived l s)
  match (t.line l).state with
  | .opening => openingCharacter l c t
  | .ready => linkError l .protocol t
  | .awaiting => blockCharacter l c (t.modLine l ProbeLine.beginBlock)
  | .receiving => blockCharacter l c t
  | .detached | .docked | .powering | .resetting | .sending | .closing => t

/-! ## Timers and the dock (R122, R124, R130, R133, R134, R139) -/

/-- PDOCK at a level: a difference from the debounced dock starts an interval, agreement abandons it (R122). -/
def pdockLevel (l : Line) (docked : Bool) (s : State) : State :=
  s.modLine l fun x =>
    { x with
      pdock := docked
      debounce := if docked = x.docked then none else x.debounce.or (some (s.setting .dockDebounce)) }

/-- A debounce interval runs out with PDOCK at the new level (R122). -/
def debounceOut (l : Line) (s : State) : State :=
  let x := s.line l
  if x.debounce.isNone then s
  else
    let t := s.modLine l fun y => { y with docked := x.pdock, debounce := none }
    match x.state with
    | .detached => if x.pdock then t.modLine l fun y => { y with state := .docked } else t
    | .docked => if x.pdock then t else t.modLine l fun y => { y with state := .detached }
    | .powering | .resetting | .opening | .ready | .sending | .awaiting | .receiving =>
      if x.pdock then t else linkError l .undocked t
    | .closing => t

/-- POWER_UP_TIME runs out: RESETTING, with PCLK at the divider read now (R121, R124). -/
def powerUpOut (l : Line) (s : State) : State :=
  if (s.line l).state = .powering then
    s.modLine l fun x =>
      { x with
        state := .resetting, divider := s.setting .pclkDivider,
        timers := { LineTimers.stopped with reset := x.timer (s.setting .resetLength) } }
  else s

/-- RESET_LENGTH runs out: PRST is released and the line waits for the sync character (R124). -/
def resetLengthOut (l : Line) (s : State) : State :=
  if (s.line l).state = .resetting then
    s.modLine l fun x =>
      { x with
        state := .opening, received := [], badReceptions := 0,
        timers := { LineTimers.stopped with sync := x.timer (s.setting .syncTimeout) } }
  else s

/-- The sync timer reaches its limit before a start bit (R124). -/
def syncOut (l : Line) (s : State) : State :=
  if (s.line l).state = .opening ∧ (s.line l).timers.sync.isSome then linkError l .openTimeout s else s

/-- The opening limit or the character wait of the opening reply is exceeded (R130). -/
def openLimitOut (l : Line) (s : State) : State :=
  if (s.line l).state = .opening ∧ (s.line l).timers.opening.isSome then linkError l .openTimeout s else s

/-- The block wait timer reaches its limit in AWAITING (R133). -/
def blockWaitOut (l : Line) (s : State) : State :=
  if (s.line l).state = .awaiting then linkError l .replyTimeout s else s

/-- CHAR_WAIT passes in RECEIVING with the block incomplete or its length bad (R134). -/
def charWaitOut (l : Line) (s : State) : State :=
  if (s.line l).state = .receiving ∧ (s.line l).timers.charWait.isSome then badBlock l s else s

/-- POWER_OFF_TIME runs out: DOCKED or DETACHED by the debounced dock (R139). -/
def offOut (l : Line) (s : State) : State :=
  if (s.line l).state = .closing then
    s.modLine l fun x =>
      { x with state := if x.docked then .docked else .detached, timers := { x.timers with off := none } }
  else s

end Sys2Proof.Machine
end

