-- ==== Sys2Proof/Machine/InspectionRequests.lean ====
section
/-! DEFINITION. The requests INSPECT, CANCEL_INSPECT, LINE_STATUS and READ_CLOCK (chapters 7 and 8). -/

namespace Sys2Proof.Machine

/-- The effect of an accepted INSPECT on CT, IU and the line (R12, R123, R146). -/
def startInspection (b : Bay) (l : Line) (i : Comp) (s : State) : State :=
  let x : Inspection :=
    { comp := i, bay := b, phase := .opening, limits := (limitEntry s (s.comp i).nextClass).maxima,
      toTake := s.setting .samples, taken := 0, worst := ⟨0, 0, 0, 0⟩ }
  openLine l i ((s.modComp i fun r => { r with state := .inspecting }).setInspection l (some x))

/-- INSPECT: the checks of R145 in order. -/
def ownInspect (r : Request) (s : State) : Taken :=
  whenOpen s <|
    match portRole r.port, r.payload with
    | .bay b, [n, k] =>
      match index? 96 n.toNat, index? 2 k.toNat with
      | some i, some l =>
        if (s.comp i).state = .free then refuse .noSuch s
        else if parkedBay i s ≠ some b then refuse .notPermitted s
        else if (s.comp i).state ≠ .inspectWait then refuse .wrongState s
        else if (s.line l).state = .detached then refuse .notDocked s
        else if (s.line l).state ≠ .docked then refuse .busy s
        else accept [] (startInspection b l i s)
      | _, _ => refuse .badArg s
    | _, _ => refuse .badArg s

/-- A bay port names an inspection of another bay (R151). -/
def foreignInspection (p : Port) (x : Inspection) : Bool :=
  match portRole p with
  | .bay b => decide (x.bay ≠ b)
  | .office | .fill => false

/-- CANCEL_INSPECT (R151). -/
def ownCancelInspect (r : Request) (s : State) : Taken :=
  match r.payload with
  | [n] =>
    nameLine n s fun l =>
      match s.inspection l with
      | none => refuse .wrongState s
      | some x =>
        if foreignInspection r.port x then refuse .notPermitted s
        else accept [] (finishInspection l x .cancelled (reportNoJudgement x.comp (closeLine l none s)))
  | _ => refuse .badArg s

/-- The OK answer of LINE_STATUS after the result code, its items in the order of R141. -/
def lineStatusBytes (x : ProbeLine) : List Byte :=
  [byte x.state.code, flag x.docked, numberOr0 x.bound, byte x.bitOrder.code, byte x.speed]
    ++ word2 (bitPeriod x.speed)
    ++ [byte x.extraGuard, byte x.checkMode.code, byte x.maxLength, byte x.exchange.waits,
      byte x.exchange.repeats, byte (x.exchange.factor.getD 0), byte (x.lastError.elim 0 LinkError.code),
      byte (x.lastResult.elim 0 InspectionOutcome.code)]

/-- LINE_STATUS (R141). -/
def ownLineStatus (r : Request) (s : State) : Taken :=
  match r.payload with
  | [n] => nameLine n s fun l => accept (lineStatusBytes (s.line l)) s
  | _ => refuse .badArg s

/-- READ_CLOCK: minute count, then second count (R154). -/
def ownReadClock (r : Request) (s : State) : Taken :=
  match r.payload with
  | [] => accept (word3 s.clock.minute ++ [byte s.clock.second]) s
  | _ => refuse .badArg s

/-! ## Meanings -/

def execInspect (r : Request) (s : State) : Result := takeRequest .inspect r (ownInspect r) s
def execCancelInspect (r : Request) (s : State) : Result := takeRequest .cancelInspect r (ownCancelInspect r) s
def execLineStatus (r : Request) (s : State) : Result := takeRequest .lineStatus r (ownLineStatus r) s
def execReadClock (r : Request) (s : State) : Result := takeRequest .readClock r (ownReadClock r) s

end Sys2Proof.Machine
end

