-- ==== Sys2Proof/Machine/LineEvents.lean ====
section
/-! DEFINITION. The meanings of the events on the probe lines (chapter 7). -/

namespace Sys2Proof.Machine

/-- PDOCK_CHANGE (R122). While the reset pin is asserted the level alone is followed (R176; log 22). -/
def execPdockChange (l : Line) (docked : Bool) (s : State) : Result :=
  .next (if s.resetPin then s.modLine l fun x => { x with pdock := docked } else pdockLevel l docked s)

def execDockDebounceExpiry (l : Line) (s : State) : Result := live s (debounceOut l)
def execPowerUpExpiry (l : Line) (s : State) : Result := live s (powerUpOut l)
def execResetLengthExpiry (l : Line) (s : State) : Result := live s (resetLengthOut l)
def execSyncTimeout (l : Line) (s : State) : Result := live s (syncOut l)
def execOpenLimitExpiry (l : Line) (s : State) : Result := live s (openLimitOut l)
def execProbeCharacterReceived (l : Line) (c : ProbeChar) (s : State) : Result := live s (probeCharacter l c)
def execOpeningReply (l : Line) (s : State) : Result := live s (replyReceived l)
def execBlockSendStart (l : Line) (s : State) : Result := live s (startBlock l)
def execCharacterSent (l : Line) (errorSignal : Bool) (s : State) : Result := live s (endCharacter l errorSignal)
def execBlockWaitExpiry (l : Line) (s : State) : Result := live s (blockWaitOut l)
def execCharWaitExpiry (l : Line) (s : State) : Result := live s (charWaitOut l)
def execBlockReceived (l : Line) (s : State) : Result := live s (blockReceived l)
def execOffTimerExpiry (l : Line) (s : State) : Result := live s (offOut l)

end Sys2Proof.Machine
end

