-- ==== Sys2Proof/Machine/PortEvents.lean ====
section
/-! DEFINITION. The requests that the ports own, FETCH_NOTICE, SET_NOTICE_MASK and PORT_STATUS, a request of no known kind, and the
events on the port lines (chapter 10). -/

namespace Sys2Proof.Machine

/-! ## Notices (R182, R183) -/

/-- FETCH_NOTICE: the flag of the highest-priority unmasked kind and lowest subject is cleared and returned (R183). -/
def ownFetchNotice (r : Request) (s : State) : Taken :=
  match r.payload with
  | [] =>
    match (s.port r.port).waiting with
    | [] => accept [0, 0] s
    | n :: _ =>
      accept [byte n.kind, byte n.subject]
        (s.modPort r.port fun q => { q with flags := q.flags.filter fun x => decide (x ≠ n) })
  | _ => refuse .badArg s

/-- SET_NOTICE_MASK: 1 masks and 0 unmasks a kind of the port's role (R182). -/
def ownSetNoticeMask (r : Request) (s : State) : Taken :=
  match r.payload with
  | [k, v] =>
    match index? 5 k.toNat, flag? v with
    | some i, some m =>
      if kindCount r.port < k.toNat then refuse .badArg s
      else accept [] (s.modPort r.port fun q => { q with masks := put q.masks i m })
    | _, _ => refuse .badArg s
  | _ => refuse .badArg s

/-! ## PORT_STATUS (R184) -/

/-- The OK answer of PORT_STATUS after the result code, its items in the order of R184. -/
def portStatusBytes (s : State) (p : Port) : List Byte :=
  let q := s.port p
  [byte p.val, byte s.portRate.val, byte q.gapCount, byte q.checkCount, byte q.lengthCount, byte q.overrunCount]
    ++ word2 q.countingTime ++ ((q.masks.toList.take (kindCount p)).map flag)
    ++ word2 q.waiting.length ++ [flag (attn s p)]

/-- The four counters and the counting time set to 0 (R184). -/
def StationPort.clearCounters (q : StationPort) : StationPort :=
  { q with gapCount := 0, checkCount := 0, lengthCount := 0, overrunCount := 0, countingTime := 0 }

/-- PORT_STATUS: the answer is built, then the counters are cleared (R184). -/
def ownPortStatus (r : Request) (s : State) : Taken :=
  match r.payload with
  | [] => accept (portStatusBytes s r.port) (s.modPort r.port StationPort.clearCounters)
  | _ => refuse .badArg s

/-! ## Meanings of the port's requests -/

def execFetchNotice (r : Request) (s : State) : Result := takeRequest .fetchNotice r (ownFetchNotice r) s
def execSetNoticeMask (r : Request) (s : State) : Result := takeRequest .setNoticeMask r (ownSetNoticeMask r) s
def execPortStatus (r : Request) (s : State) : Result := takeRequest .portStatus r (ownPortStatus r) s

/-- A port that held nothing and now holds a PORT_STATUS takes it at once, as its owner, so that every overrun while it is held comes
after the clearing (R184; log 3). Any other request waits for its owner. -/
def takeOwnStatus (p : Port) (before t : State) : State :=
  match (before.port p).held, (t.port p).held with
  | none, some h =>
    if h.kind = byte RequestKind.portStatus.code then serve h.kind ⟨p, h.tag, h.payload⟩ (ownPortStatus ⟨p, h.tag, h.payload⟩) t
    else t
  | _, _ => t

/-- BAD_KIND_REQUEST: a complete frame whose kind names no request is refused BAD_KIND (R179). A frame whose kind does name one is
not such a frame: it completes and is held for its owner (logs 3 and 6). -/
def execBadKindRequest (kind : Byte) (r : Request) (s : State) : Result :=
  live s fun t =>
    if namesNoRequest kind then serve kind r (refuse .badKind) t
    else takeOwnStatus r.port t (t.modPort r.port fun q => q.complete kind r.tag r.payload)

/-! ## Port line events (R177, R178) -/

/-- GAP_TIMEOUT: an incomplete frame is dropped and counted; with no frame being received no gap timer runs (R177). -/
def StationPort.gapOut (q : StationPort) : StationPort :=
  if q.receiver = .seeking then q else { q.seek with gapCount := countUp Config.counterStop q.gapCount }

/-- FRAME_OVERRUN: a frame that completes while the port holds a request is discarded and counted (R178). -/
def StationPort.overrunHeld (q : StationPort) : StationPort := if q.held.isSome then q.overrun else q

/-- PORT_CHARACTER_RECEIVED: the receiver takes the character; a PORT_STATUS whose frame it completes is taken (R177, R178, R184;
logs 3 and 4). -/
def execPortCharacterReceived (p : Port) (c : PortChar) (s : State) : Result :=
  live s fun t => takeOwnStatus p t (t.modPort p fun q => q.receive c)
def execFrameDropped (p : Port) (cause : DropCause) (s : State) : Result :=
  live s fun t => t.modPort p fun q => q.drop cause
def execGapTimeout (p : Port) (s : State) : Result := live s fun t => t.modPort p StationPort.gapOut
def execFrameOverrun (p : Port) (s : State) : Result := live s fun t => t.modPort p StationPort.overrunHeld

/-- ANSWER_SENT (R178). -/
def execAnswerSent (p : Port) (s : State) : Result := live s fun t => t.modPort p StationPort.sent

end Sys2Proof.Machine
end

