-- ==== Sys2Proof/Machine/Resets.lean ====
section
/-! DEFINITION. The resets: YARD_RESET, protected and unprotected, POWER_ON_RESET and RESET_PIN_ASSERTED (R24 to R26, R39, R74,
R101, R119, R143, R159, R174, R176, R186). -/

namespace Sys2Proof.Machine

/-- A port after a yard reset: receiver SEEKING, a request not yet taken discarded, counters and flags cleared; an answer in
transmission and the masks are kept (R176, R186). -/
def StationPort.afterYardReset (q : StationPort) : StationPort :=
  { q.seek.clearCounters with
    held := q.held.filter fun h => h.taken
    flags := [] }

/-- A channel after a yard reset (R101). -/
def WashChannel.afterYardReset (x : WashChannel) : WashChannel :=
  WashChannel.afterReset (if x.state = .unfitted then .unfitted else .idle) x.headIn

/-- A probe line after a yard reset: a session is cut short into CLOSING with no report; session items are kept (R143). -/
def ProbeLine.afterYardReset (x : ProbeLine) (off : Nat) : ProbeLine :=
  { x with
    state := if x.state.inSession then .closing else x.state
    bound := none, exchange := Exchange.empty, lastError := none, lastResult := none,
    timers :=
      { LineTimers.stopped with
        off := if x.state.inSession then x.timer off else if x.state = .closing then x.timers.off else none },
    transmissions := 0, badReceptions := 0, received := [], badLength := false, sending := none }

/-- Every block but CT, the bay queues and the lanes at either yard reset: channels, arbiter, lines, contexts and ports; dispatch
attempts caused before the reset are not made after it (R66, R74, R101, R119, R143, R159, R176). -/
def resetBlocks (s : State) : State :=
  { s with
    channels := Vector.ofFn fun c : Chan => (s.chan c).afterYardReset
    plant := s.plant.afterYardReset
    lines := Vector.ofFn fun l : Line => (s.line l).afterYardReset (s.setting .powerOffTime)
    inspections := Vector.replicate 2 none
    ports := Vector.ofFn fun p : Port => (s.port p).afterYardReset
    bays := Vector.ofFn fun b : Bay => { s.bay b with owed := 0 } }

/-- The lanes reset (R174). -/
def resetLanes (s : State) : State := { s with lanes := Vector.ofFn fun l : Lane => (s.lane l).afterYardReset }

/-- A record in flight at a protected yard reset: WASHING is held INTERRUPTED, INSPECTING goes back to INSPECT_WAIT (R25). -/
def interruptRecord (s : State) (i : Comp) : State :=
  match (s.comp i).state with
  | .washing => holdRecord i .interrupted s
  | .inspecting => s.modComp i fun r => { r with state := .inspectWait }
  | .free | .booked | .queued | .inspectWait | .cleared | .filling | .filled | .held | .withdrawn => s

/-- A lane hands its fill to CT at a protected yard reset: FILLED with outcome INTERRUPTED, or CLEARED for a count of 0
(R25, R174). -/
def interruptFill (s : State) (l : Lane) : State :=
  match (s.lane l).state, (s.lane l).context with
  | .active, some x | .settling, some x => reportFill l x (s.lane l).counter .interrupted s
  | _, _ => s

/-- A protected yard reset: the blocks reset and every notice cleared, then CT's moves with their notices (R25, R186). -/
def protectedReset (s : State) : State :=
  resetLanes ((List.finRange 2).foldl interruptFill ((List.finRange 96).foldl interruptRecord (resetBlocks s)))

/-- An unprotected yard reset: the same for channels, lines, lanes and ports, and every record and tanker entry FREE, the queues
empty, the certificate counter 1 and the yard closed (R26, R39, R74). -/
def unprotectedReset (s : State) : State :=
  let t := resetLanes (resetBlocks s)
  { t with
    comps := Vector.replicate 96 CompartmentRecord.freed
    tankers := Vector.replicate 16 none
    bays := Vector.ofFn fun b : Bay => { t.bay b with parked := none, queue := [] }
    departures := []
    certCounter := 1
    yardOpen := false }

/-- YARD_RESET: protect 1 or 0, any other value BAD_ARG (R186). -/
def ownYardReset (r : Request) (s : State) : Taken :=
  match r.payload with
  | [p] =>
    match flag? p with
    | none => refuse .badArg s
    | some true => accept [] (protectedReset s)
    | some false => accept [] (unprotectedReset s)
  | _ => refuse .badArg s

/-- POWER_ON_RESET: the straps are sampled and every block takes its power-on values; the field inputs are as they stand and the
command queue is not the part's (R24, R176; log 25). -/
def powerOn (straps : Straps) (s : State) : State :=
  State.powerOn straps s.permit (Vector.ofFn fun c : Chan => (s.chan c).headIn)
    (Vector.ofFn fun l : Line => (s.line l).pdock) (Vector.ofFn fun l : Lane => (s.lane l).arm) s.pending

/-! ## Meanings -/

def execYardReset (r : Request) (s : State) : Result := takeRequest .yardReset r (ownYardReset r) s
def execPowerOnReset (straps : Straps) (s : State) : Result := .next (powerOn straps s)

/-- RESET_PIN_ASSERTED: until the release the part takes nothing and every output stands at its power-on value (R176). -/
def execResetPinAsserted (s : State) : Result := .next { s with resetPin := true }

end Sys2Proof.Machine
end

