-- ==== Sys2Proof/Machine/Dispatch.lean ====
section
/-! DEFINITION. The dispatch of the commands: one arm for each command of the table, each a direct call of its meaning. -/

namespace Sys2Proof.Machine

/-- The effect of a command on everything but the command queue. -/
def exec (i : Instr) (s : State) : Host.Outcome State Fault Refusal :=
  match i with
  | .book r => Sys2Proof.Machine.execBook r s
  | .setNextClass r => Sys2Proof.Machine.execSetNextClass r s
  | .dispose r => Sys2Proof.Machine.execDispose r s
  | .withdraw r => Sys2Proof.Machine.execWithdraw r s
  | .depart r => Sys2Proof.Machine.execDepart r s
  | .takeDeparture r => Sys2Proof.Machine.execTakeDeparture r s
  | .readCompartment r => Sys2Proof.Machine.execReadCompartment r s
  | .readTanker r => Sys2Proof.Machine.execReadTanker r s
  | .writeMatrixRow r => Sys2Proof.Machine.execWriteMatrixRow r s
  | .readMatrixRow r => Sys2Proof.Machine.execReadMatrixRow r s
  | .writeLimits r => Sys2Proof.Machine.execWriteLimits r s
  | .readLimits r => Sys2Proof.Machine.execReadLimits r s
  | .openYard r => Sys2Proof.Machine.execOpenYard r s
  | .clearStaging r => Sys2Proof.Machine.execClearStaging r s
  | .writeStagingStep r => Sys2Proof.Machine.execWriteStagingStep r s
  | .setStagingRounds r => Sys2Proof.Machine.execSetStagingRounds r s
  | .loadStaging r => Sys2Proof.Machine.execLoadStaging r s
  | .readStaging r => Sys2Proof.Machine.execReadStaging r s
  | .commitRecipe r => Sys2Proof.Machine.execCommitRecipe r s
  | .eraseRecipe r => Sys2Proof.Machine.execEraseRecipe r s
  | .readRecipe r => Sys2Proof.Machine.execReadRecipe r s
  | .park r => Sys2Proof.Machine.execPark r s
  | .unpark r => Sys2Proof.Machine.execUnpark r s
  | .expedite r => Sys2Proof.Machine.execExpedite r s
  | .requestDispatch r => Sys2Proof.Machine.execRequestDispatch r s
  | .dispatchAttempt b => Sys2Proof.Machine.execDispatchAttempt b s
  | .cancelBinding r => Sys2Proof.Machine.execCancelBinding r s
  | .readBay r => Sys2Proof.Machine.execReadBay r s
  | .startRun r => Sys2Proof.Machine.execStartRun r s
  | .startRehearsal r => Sys2Proof.Machine.execStartRehearsal r s
  | .abortRun r => Sys2Proof.Machine.execAbortRun r s
  | .clearFault r => Sys2Proof.Machine.execClearFault r s
  | .serviceEnter r => Sys2Proof.Machine.execServiceEnter r s
  | .serviceLatch r => Sys2Proof.Machine.execServiceLatch r s
  | .serviceClaim r => Sys2Proof.Machine.execServiceClaim r s
  | .serviceRelease r => Sys2Proof.Machine.execServiceRelease r s
  | .serviceExit r => Sys2Proof.Machine.execServiceExit r s
  | .channelStatus r => Sys2Proof.Machine.execChannelStatus r s
  | .setHotCapacity r => Sys2Proof.Machine.execSetHotCapacity r s
  | .setTokenAllowance r => Sys2Proof.Machine.execSetTokenAllowance r s
  | .setPriorityScheme r => Sys2Proof.Machine.execSetPriorityScheme r s
  | .readArbiter r => Sys2Proof.Machine.execReadArbiter r s
  | .lineStatus r => Sys2Proof.Machine.execLineStatus r s
  | .inspect r => Sys2Proof.Machine.execInspect r s
  | .cancelInspect r => Sys2Proof.Machine.execCancelInspect r s
  | .readClock r => Sys2Proof.Machine.execReadClock r s
  | .authorizeFill r => Sys2Proof.Machine.execAuthorizeFill r s
  | .stopFill r => Sys2Proof.Machine.execStopFill r s
  | .laneStatus r => Sys2Proof.Machine.execLaneStatus r s
  | .fetchNotice r => Sys2Proof.Machine.execFetchNotice r s
  | .setNoticeMask r => Sys2Proof.Machine.execSetNoticeMask r s
  | .portStatus r => Sys2Proof.Machine.execPortStatus r s
  | .setYard r => Sys2Proof.Machine.execSetYard r s
  | .readYard r => Sys2Proof.Machine.execReadYard r s
  | .yardReset r => Sys2Proof.Machine.execYardReset r s
  | .badKindRequest kind r => Sys2Proof.Machine.execBadKindRequest kind r s
  | .powerOnReset straps => Sys2Proof.Machine.execPowerOnReset straps s
  | .frameDropped p cause => Sys2Proof.Machine.execFrameDropped p cause s
  | .gapTimeout p => Sys2Proof.Machine.execGapTimeout p s
  | .frameOverrun p => Sys2Proof.Machine.execFrameOverrun p s
  | .answerSent p => Sys2Proof.Machine.execAnswerSent p s
  | .secondTick refreshFirst => Sys2Proof.Machine.execSecondTick refreshFirst s
  | .minuteTick => Sys2Proof.Machine.execMinuteTick s
  | .refresh => Sys2Proof.Machine.execRefresh s
  | .passTimerExpiry c => Sys2Proof.Machine.execPassTimerExpiry c s
  | .runningTimeExpiry c => Sys2Proof.Machine.execRunningTimeExpiry c s
  | .flowMeterPulse c => Sys2Proof.Machine.execFlowMeterPulse c s
  | .guardExpiry c => Sys2Proof.Machine.execGuardExpiry c s
  | .dischargePermitDrop d => Sys2Proof.Machine.execDischargePermitDrop d s
  | .dischargePermitReturn => Sys2Proof.Machine.execDischargePermitReturn s
  | .pauseLimitExpiry c => Sys2Proof.Machine.execPauseLimitExpiry c s
  | .headInDrop c => Sys2Proof.Machine.execHeadInDrop c s
  | .headInRise c => Sys2Proof.Machine.execHeadInRise c s
  | .drainDownExpiry c => Sys2Proof.Machine.execDrainDownExpiry c s
  | .pdockChange l docked => Sys2Proof.Machine.execPdockChange l docked s
  | .dockDebounceExpiry l => Sys2Proof.Machine.execDockDebounceExpiry l s
  | .powerUpExpiry l => Sys2Proof.Machine.execPowerUpExpiry l s
  | .resetLengthExpiry l => Sys2Proof.Machine.execResetLengthExpiry l s
  | .syncTimeout l => Sys2Proof.Machine.execSyncTimeout l s
  | .openLimitExpiry l => Sys2Proof.Machine.execOpenLimitExpiry l s
  | .probeCharacterReceived l ch => Sys2Proof.Machine.execProbeCharacterReceived l ch s
  | .openingReply l => Sys2Proof.Machine.execOpeningReply l s
  | .blockSendStart l => Sys2Proof.Machine.execBlockSendStart l s
  | .characterSent l errorSignal => Sys2Proof.Machine.execCharacterSent l errorSignal s
  | .blockWaitExpiry l => Sys2Proof.Machine.execBlockWaitExpiry l s
  | .charWaitExpiry l => Sys2Proof.Machine.execCharWaitExpiry l s
  | .blockReceived l => Sys2Proof.Machine.execBlockReceived l s
  | .offTimerExpiry l => Sys2Proof.Machine.execOffTimerExpiry l s
  | .laneMeterPulse l => Sys2Proof.Machine.execLaneMeterPulse l s
  | .noFlowExpiry l => Sys2Proof.Machine.execNoFlowExpiry l s
  | .armDrop l => Sys2Proof.Machine.execArmDrop l s
  | .armRise l => Sys2Proof.Machine.execArmRise l s
  | .settleExpiry l => Sys2Proof.Machine.execSettleExpiry l s
  | .portCharacterReceived p ch => Sys2Proof.Machine.execPortCharacterReceived p ch s
  | .resetPinAsserted => Sys2Proof.Machine.execResetPinAsserted s

end Sys2Proof.Machine
end

