-- ==== Sys2Proof/Safety.lean ====
section
/-! DEFINITION. The words that the statements about this machine use: the request commands by kind, a port that listens, the state of a
port that has answered, and the laws that the manual says the state obeys. -/

namespace Sys2Proof.Machine

open Sys2Proof (Byte Comp Tanker Bay Chan RecipeSlot CargoClass Line Lane Port)

/-! ## Requests -/

/-- The requests in the order of the catalogue (R180). -/
def RequestKind.all : List RequestKind :=
  [.book, .setNextClass, .dispose, .withdraw, .depart, .takeDeparture, .readCompartment, .readTanker,
   .writeMatrixRow, .readMatrixRow, .writeLimits, .readLimits, .openYard, .clearStaging, .writeStagingStep,
   .setStagingRounds, .loadStaging, .readStaging, .commitRecipe, .eraseRecipe, .readRecipe, .park, .unpark,
   .expedite, .requestDispatch, .cancelBinding, .readBay, .startRun, .startRehearsal, .abortRun,
   .clearFault, .serviceEnter, .serviceLatch, .serviceClaim, .serviceRelease, .serviceExit, .channelStatus,
   .setHotCapacity, .setTokenAllowance, .setPriorityScheme, .readArbiter, .lineStatus, .inspect,
   .cancelInspect, .readClock, .authorizeFill, .stopFill, .laneStatus, .fetchNotice, .setNoticeMask,
   .portStatus, .setYard, .readYard, .yardReset]

/-- The command by which a request of the catalogue arrives, with nothing between the readings of a BOOK or a PARK. -/
def request (k : RequestKind) (r : Request) : Instr :=
  match k with
  | .book => .book ⟨r, []⟩
  | .setNextClass => .setNextClass r
  | .dispose => .dispose r
  | .withdraw => .withdraw r
  | .depart => .depart r
  | .takeDeparture => .takeDeparture r
  | .readCompartment => .readCompartment r
  | .readTanker => .readTanker r
  | .writeMatrixRow => .writeMatrixRow r
  | .readMatrixRow => .readMatrixRow r
  | .writeLimits => .writeLimits r
  | .readLimits => .readLimits r
  | .openYard => .openYard r
  | .clearStaging => .clearStaging r
  | .writeStagingStep => .writeStagingStep r
  | .setStagingRounds => .setStagingRounds r
  | .loadStaging => .loadStaging r
  | .readStaging => .readStaging r
  | .commitRecipe => .commitRecipe r
  | .eraseRecipe => .eraseRecipe r
  | .readRecipe => .readRecipe r
  | .park => .park ⟨r, []⟩
  | .unpark => .unpark r
  | .expedite => .expedite r
  | .requestDispatch => .requestDispatch r
  | .cancelBinding => .cancelBinding r
  | .readBay => .readBay r
  | .startRun => .startRun r
  | .startRehearsal => .startRehearsal r
  | .abortRun => .abortRun r
  | .clearFault => .clearFault r
  | .serviceEnter => .serviceEnter r
  | .serviceLatch => .serviceLatch r
  | .serviceClaim => .serviceClaim r
  | .serviceRelease => .serviceRelease r
  | .serviceExit => .serviceExit r
  | .channelStatus => .channelStatus r
  | .setHotCapacity => .setHotCapacity r
  | .setTokenAllowance => .setTokenAllowance r
  | .setPriorityScheme => .setPriorityScheme r
  | .readArbiter => .readArbiter r
  | .lineStatus => .lineStatus r
  | .inspect => .inspect r
  | .cancelInspect => .cancelInspect r
  | .readClock => .readClock r
  | .authorizeFill => .authorizeFill r
  | .stopFill => .stopFill r
  | .laneStatus => .laneStatus r
  | .fetchNotice => .fetchNotice r
  | .setNoticeMask => .setNoticeMask r
  | .portStatus => .portStatus r
  | .setYard => .setYard r
  | .readYard => .readYard r
  | .yardReset => .yardReset r

/-- The command that stands for what comes between two readings of one request (R34). -/
def betweenCommand (e : Between) : Instr :=
  match e with
  | .writeMatrixRow r => .writeMatrixRow r
  | .writeLimits r => .writeLimits r
  | .answerSent p => .answerSent p

/-- What the owner of a request does with it once the port has passed it on (R179). -/
def RequestKind.owner (k : RequestKind) (r : Request) : State → Taken :=
  match k with
  | .book => ownBook ⟨r, []⟩
  | .setNextClass => ownSetNextClass r
  | .dispose => ownDispose r
  | .withdraw => ownWithdraw r
  | .depart => ownDepart r
  | .takeDeparture => ownTakeDeparture r
  | .readCompartment => ownReadCompartment r
  | .readTanker => ownReadTanker r
  | .writeMatrixRow => ownWriteMatrixRow r
  | .readMatrixRow => ownReadMatrixRow r
  | .writeLimits => ownWriteLimits r
  | .readLimits => ownReadLimits r
  | .openYard => ownOpenYard r
  | .clearStaging => ownClearStaging r
  | .writeStagingStep => ownWriteStagingStep r
  | .setStagingRounds => ownSetStagingRounds r
  | .loadStaging => ownLoadStaging r
  | .readStaging => ownReadStaging r
  | .commitRecipe => ownCommitRecipe r
  | .eraseRecipe => ownEraseRecipe r
  | .readRecipe => ownReadRecipe r
  | .park => ownPark ⟨r, []⟩
  | .unpark => ownUnpark r
  | .expedite => ownExpedite r
  | .requestDispatch => ownRequestDispatch r
  | .cancelBinding => ownCancelBinding r
  | .readBay => ownReadBay r
  | .startRun => ownStartRun r
  | .startRehearsal => ownStartRehearsal r
  | .abortRun => ownAbortRun r
  | .clearFault => ownClearFault r
  | .serviceEnter => ownServiceEnter r
  | .serviceLatch => ownServiceLatch r
  | .serviceClaim => ownServiceClaim r
  | .serviceRelease => ownServiceRelease r
  | .serviceExit => ownServiceExit r
  | .channelStatus => ownChannelStatus r
  | .setHotCapacity => ownSetHotCapacity r
  | .setTokenAllowance => ownSetTokenAllowance r
  | .setPriorityScheme => ownSetPriorityScheme r
  | .readArbiter => ownReadArbiter r
  | .lineStatus => ownLineStatus r
  | .inspect => ownInspect r
  | .cancelInspect => ownCancelInspect r
  | .readClock => ownReadClock r
  | .authorizeFill => ownAuthorizeFill r
  | .stopFill => ownStopFill r
  | .laneStatus => ownLaneStatus r
  | .fetchNotice => ownFetchNotice r
  | .setNoticeMask => ownSetNoticeMask r
  | .portStatus => ownPortStatus r
  | .setYard => ownSetYard r
  | .readYard => ownReadYard r
  | .yardReset => ownYardReset r

/-- The part is not held in reset and the port holds no request, so that a frame that completes is taken (R176, R178). -/
abbrev Listening (s : State) (p : Port) : Prop := s.resetPin = false ∧ (s.port p).held = none

/-- A request frame reaches a port that listens and whose role permits it (R178, R179). -/
abbrev Asked (s : State) (k : RequestKind) (r : Request) : Prop := Listening s r.port ∧ k.permitted r.port = true

/-- The requests whose column of the catalogue reads "Yes" for a role (R180). -/
def PortRole.column (x : PortRole) : List RequestKind :=
  match x with
  | .office =>
    [.book, .setNextClass, .dispose, .withdraw, .depart, .takeDeparture, .readCompartment, .readTanker,
     .writeMatrixRow, .readMatrixRow, .writeLimits, .readLimits, .openYard, .clearStaging, .writeStagingStep,
     .setStagingRounds, .loadStaging, .readStaging, .commitRecipe, .eraseRecipe, .readRecipe, .unpark, .expedite,
     .requestDispatch, .cancelBinding, .readBay, .clearFault, .serviceEnter, .serviceLatch, .serviceClaim,
     .serviceRelease, .serviceExit, .channelStatus, .setHotCapacity, .setTokenAllowance, .setPriorityScheme,
     .readArbiter, .lineStatus, .cancelInspect, .readClock, .stopFill, .laneStatus, .fetchNotice, .setNoticeMask,
     .portStatus, .setYard, .readYard, .yardReset]
  | .bay _ =>
    [.readCompartment, .readTanker, .readRecipe, .park, .unpark, .requestDispatch, .cancelBinding, .readBay,
     .startRun, .startRehearsal, .abortRun, .clearFault, .serviceEnter, .serviceLatch, .serviceClaim,
     .serviceRelease, .serviceExit, .channelStatus, .readArbiter, .lineStatus, .inspect, .cancelInspect, .readClock,
     .laneStatus, .fetchNotice, .setNoticeMask, .portStatus, .readYard]
  | .fill =>
    [.readCompartment, .readTanker, .readBay, .channelStatus, .readArbiter, .lineStatus, .readClock, .authorizeFill,
     .stopFill, .laneStatus, .fetchNotice, .setNoticeMask, .portStatus, .readYard]

/-- A port that holds a request as taken and has its answer in transmission: the receiver is SEEKING (R177, R178). -/
def StationPort.answered (q : StationPort) (kind answer : Byte) (r : Request) (x : ResultCode) (data : List Byte) :
    StationPort :=
  { q with
    receiver := .seeking, buffer := [], gapRunning := false
    held := some ⟨kind, r.tag, r.payload, true⟩
    answer := some ⟨answer, r.tag, byte x.code :: data⟩ }

/-- A state whose only change is that a request has been taken and is being answered: the answer has the kind of the request plus
80h, its tag, and the result code before its items (R178). -/
def State.answered (s : State) (k : RequestKind) (r : Request) (x : ResultCode) (data : List Byte) : State :=
  s.setPort r.port ((s.port r.port).answered (byte k.code) (byte (k.code + 0x80)) r x data)

/-- The port of a request while its owner works: the request held as taken, the receiver SEEKING (R177, R178). -/
def State.taking (s : State) (k : RequestKind) (r : Request) : State :=
  s.setPort r.port
    { s.port r.port with
      receiver := .seeking, buffer := [], gapRunning := false
      held := some ⟨byte k.code, r.tag, r.payload, true⟩ }

/-- A state with the port's answer to a request placed in transmission (R178). -/
def State.answering (s : State) (k : RequestKind) (r : Request) (x : Reply) : State :=
  s.setPort r.port
    { s.port r.port with answer := some ⟨byte (k.code + 0x80), r.tag, byte x.result.code :: x.data⟩ }

/-- The port of a request is answering it OK with these items. -/
abbrev AnswersOk (t : State) (k : RequestKind) (r : Request) (data : List Byte) : Prop :=
  (t.port r.port).answer = some ⟨byte (k.code + 0x80), r.tag, byte ResultCode.ok.code :: data⟩

/-- Every port but one is as it was. -/
abbrev SamePortsBut (s t : State) (p : Port) : Prop := ∀ q, q ≠ p → t.port q = s.port q

/-- A port that differs in its flags alone, one notice having been raised on it (R181). -/
abbrev Raised (s t : State) (p : Port) (kind subject : Nat) : Prop :=
  (t.port p).flags = insertNotice ⟨kind, subject⟩ (s.port p).flags

/-- Commands that a part held in reset takes: the power-on reset itself and the levels of its inputs (R176; log 22). -/
def takenInReset (c : Instr) : Bool :=
  match c with
  | .powerOnReset _ | .pdockChange _ _ | .dischargePermitDrop _ | .dischargePermitReturn | .headInDrop _
  | .headInRise _ | .armDrop _ | .armRise _ => true
  | _ => false

/-- A byte that names an object by its number (00_scope "Numbering of yard objects"). -/
abbrev Names {k : Nat} (n : Byte) (i : Fin k) : Prop := n.toNat = i.val + 1

/-- A byte that names none of `k` objects. -/
abbrev NamesNone (k : Nat) (n : Byte) : Prop := n.toNat = 0 ∨ k < n.toNat

/-- The requests that are refused NOT_OPEN while the yard is closed (R38). -/
def openOnly : List RequestKind := [.book, .park, .startRun, .startRehearsal, .inspect, .authorizeFill]

/-- The payload length of a request whose layout has one (R179, R188, R190): BOOK's length goes by its count and REQUEST_DISPATCH's by
its port. -/
def RequestKind.payloadLength (k : RequestKind) : Option Nat :=
  match k with
  | .book | .requestDispatch => none
  | .takeDeparture | .openYard | .clearStaging | .readStaging | .readArbiter | .readClock | .fetchNotice
  | .portStatus => some 0
  | .withdraw | .depart | .readCompartment | .readTanker | .readMatrixRow | .readLimits | .setStagingRounds
  | .loadStaging | .commitRecipe | .eraseRecipe | .readRecipe | .park | .unpark | .expedite | .cancelBinding
  | .readBay | .startRun | .abortRun | .clearFault | .serviceEnter | .serviceRelease | .serviceExit
  | .channelStatus | .setHotCapacity | .setPriorityScheme | .lineStatus | .cancelInspect | .stopFill
  | .laneStatus | .readYard | .yardReset => some 1
  | .setNextClass | .dispose | .startRehearsal | .inspect | .setNoticeMask => some 2
  | .setTokenAllowance => some 3
  | .serviceClaim | .setYard => some 4
  | .authorizeFill => some 5
  | .serviceLatch => some 6
  | .writeLimits => some 10
  | .writeStagingStep => some 11
  | .writeMatrixRow => some 33

/-! ## Payloads (R187, R188) -/

/-- A compartment description as BOOK carries it (R188). -/
def Description.bytes (d : Description) : List Byte :=
  word2 d.capacity ++ [byte d.hatches, byte d.lastClass.val, classByte d.nextClass]

/-- The payload of a BOOK (R188). -/
def bookPayload (fleet : Nat) (ds : List Description) : List Byte :=
  word2 fleet ++ [byte ds.length] ++ (ds.map Description.bytes).flatten

/-- A description in the ranges of R4. -/
def Description.inRange (d : Description) : Bool :=
  decide (100 ≤ d.capacity ∧ d.capacity ≤ 30000 ∧ (d.hatches = 1 ∨ d.hatches = 2)) && d.nextClass.all fun c => decide (c ≠ 0)

/-- The arguments of a BOOK in the ranges of R4. -/
def BookInRange (fleet : Nat) (ds : List Description) : Prop :=
  1 ≤ fleet ∧ fleet ≤ 65535 ∧ 1 ≤ ds.length ∧ ds.length ≤ 8 ∧ ∀ d ∈ ds, d.inRange = true

/-- The fields of a step fit the bytes that carry them (R190). -/
def RecipeStep.fitsBytes (x : RecipeStep) : Bool :=
  decide (x.hotUnits < 256 ∧ x.amount < 65536 ∧ x.extraPasses < 256 ∧ x.guard < 65536)

/-- A step meets the ranges and conditions of R41. -/
def RecipeStep.meetsR41 (x : RecipeStep) : Prop :=
  (if x.supply = .hot then 1 ≤ x.hotUnits ∧ x.hotUnits ≤ 3 else x.hotUnits = 0)
    ∧ (match x.mode with
       | .timed | .demand => 1 ≤ x.amount ∧ x.amount ≤ 3600 ∧ x.guard = 0
       | .metered =>
         1 ≤ x.amount ∧ x.amount ≤ 5000 ∧ 10 ≤ x.guard ∧ x.guard ≤ 3600 ∧ (x.supply = .cold ∨ x.supply = .hot))
    ∧ x.extraPasses ≤ 15

/-! ## Plant -/

/-- No channel has a waiting claim. -/
def NoneWaiting (s : State) : Prop := ∀ c : Chan, s.plant.claims[c] = none

/-- The priority order holds each channel once (R111). -/
def PriorityComplete (s : State) : Prop := s.plant.priority.Perm Plant.startOrder

/-- The compartment list of every tanker names no record twice (R2). -/
def ListsDistinct (s : State) : Prop := ∀ (i : Tanker) (t : TankerData), s.tanker i = some t → t.compartments.Nodup

/-- A channel, or both heads of its pair, in RUNNING at the start of a pass, the permit not judged yet (R79, R80, R90). -/
def State.entered (s : State) (c : Chan) : State :=
  modRun c (fun r => { r with passTimer := 0, runningTime := 0 })
    (modHeads (headsOf s c) (fun y => { y with state := .running, meter := 0, headDone := false }) s)

/-- The state after an arbitration pass whose grants are handed to their channels in their order, and the channels that fault for want
of the discharge permit on entering RUNNING, oldest first (R83, R105, R113). -/
def State.handed (s : State) : State × List Chan :=
  let x := s.plant.pass (s.setting .skipLimit)
  x.2.foldl
    (fun u c =>
      if (u.1.chan c).state = .claiming then
        if u.1.permit = true then (u.1.entered c, u.2)
        else ((judgeNoPermit c (u.1.entered c)).1, u.2 ++ (judgeNoPermit c (u.1.entered c)).2)
      else u)
    (s.setPlant x.1, [])

/-- What a second tick counts in the ports, the lanes and the channels: the counting times, the no-flow and settle timers, and the
pass, running, pause and drain-down timers, the lead's for a pair; each compared with its setting as it stands (R80, R84, R88, R90, R154,
R165, R169, R175). -/
def SecondCounted (s t : State) : Prop :=
  (∀ p : Port, t.port p = { s.port p with countingTime := countUp 65535 (s.port p).countingTime })
    ∧ (∀ l : Lane,
        t.lane l
          = match (s.lane l).state with
            | .idle => s.lane l
            | .active =>
              { s.lane l with
                noFlow := countUp 120 (s.lane l).noFlow
                noFlowDue := decide (s.setting .noFlowTime ≤ countUp 120 (s.lane l).noFlow) }
            | .settling => { s.lane l with settle := countUp 60 (s.lane l).settle })
    ∧ ∀ c : Chan,
        let x := s.chan c
        (x.state ≠ .running → x.state ≠ .paused → x.state ≠ .stopping → t.chan c = x)
          ∧ (x.state = .stopping → t.chan c = { x with drainTimer := countUp 120 x.drainTimer })
          ∧ (x.state = .running ∨ x.state = .paused → x.run = none → t.chan c = x)
          ∧ ∀ r : RunContext, x.run = some r →
              (x.state = .paused →
                  t.chan c
                    = { x with
                        pauseTimer := countUp 1800 x.pauseTimer
                        pauseDue := decide (s.setting .pauseLimit ≤ countUp 1800 x.pauseTimer) })
                ∧ (x.state = .running → stepOf s c = none → t.chan c = x)
                ∧ ∀ st : RecipeStep, x.state = .running → stepOf s c = some st →
                    t.chan c
                      = { x with
                          run :=
                            some
                              (if st.mode = .demand then { r with runningTime := countUp 3600 r.runningTime }
                               else { r with passTimer := countUp 5000 r.passTimer }) }

/-! ## Checks of frames and blocks -/

/-- The bits of a run of bytes as one number, the first byte the most significant. -/
def messageBits (l : List Byte) : Nat := l.foldl (fun n b => 256 * n + b.toNat) 0

/-- A polynomial over single bits that a generator divides: an exclusive-or of shifted generators. -/
def MultipleOf (generator n : Nat) : Prop := ∃ shifts : List Nat, n = shifts.foldl (fun m k => m ^^^ (generator <<< k)) 0

/-! ## Laws -/

/-- Every yard setting lies in its range (R185). -/
def SettingsInRange (s : State) : Prop := ∀ x : Setting, x.inRange (s.setting x) = true

/-- The departure queue holds at most 32 records (R20). -/
def DeparturesFit (s : State) : Prop := s.departures.length ≤ Config.departureCapacity

/-- Remaining tokens lie between 0 and the allowance, and read 0 under an allowance of 0 (R107). -/
def TokensWithin (s : State) : Prop := ∀ c : Chan, (s.plant.tokens[c]).remaining ≤ (s.plant.tokens[c]).allowance

/-- The HOT capacity is 1..8 (R102), and for each resource the units held in grants never exceed the capacity (R105). -/
def GrantsWithin (s : State) : Prop :=
  (1 ≤ s.plant.hotCapacity ∧ s.plant.hotCapacity ≤ 8) ∧ s.plant.granted.fits s.plant.capacity = true

/-- The yard minute count and the second count stay in their ranges (R154). -/
def ClockInRange (s : State) : Prop :=
  s.clock.second < Config.secondsPerMinute ∧ s.clock.minute < Config.minuteModulus
    ∧ s.clock.period < Config.periodsPerSecond

/-- The counters of a port stop at 255 and its counting time at 65535 (R175, R177). -/
def CountersStop (s : State) : Prop :=
  ∀ p : Port,
    (s.port p).gapCount ≤ Config.counterStop ∧ (s.port p).checkCount ≤ Config.counterStop
      ∧ (s.port p).lengthCount ≤ Config.counterStop ∧ (s.port p).overrunCount ≤ Config.counterStop
      ∧ (s.port p).countingTime ≤ Config.countStop

/-- A recipe as a slot holds it: 1..4 rounds of 1..12 steps that meet R41 (R40). -/
def Recipe.wf (x : Recipe) : Bool :=
  decide (1 ≤ x.rounds ∧ x.rounds ≤ 4 ∧ 1 ≤ x.steps.length ∧ x.steps.length ≤ 12) && x.steps.all stepAllowed

/-- A staging buffer as the manual gives it: step count 0..12, rounds 1..4, every written position at or below the step count and
holding a step that meets R41 (R45). -/
def Staging.wf (x : Staging) : Bool :=
  decide (x.stepCount ≤ 12 ∧ 1 ≤ x.rounds ∧ x.rounds ≤ 4)
    && (List.finRange 12).all fun i => (x.positions[i]).all fun st => stepAllowed st && decide (i.val < x.stepCount)

/-- Recipe slots and the staging buffer stay as R40 and R45 give them, and a matrix cell that holds a slot number names a defined
slot (R28). -/
def ConfigurationSound (s : State) : Prop :=
  s.staging.wf = true ∧ (∀ x : RecipeSlot, (s.recipe x).all Recipe.wf = true)
    ∧ ∀ a b : CargoClass, namesEmptySlot s (s.cell a b) = false

/-- The notices that stand on every port are in the order in which they are fetched, each once (R181, R183). -/
def NoticesOrdered (s : State) : Prop := ∀ p : Port, ((s.port p).flags).Pairwise fun x y => x.before y = true

/-- A state in which a record carries a certificate (R156). -/
def Lifecycle.certified (x : Lifecycle) : Bool :=
  match x with
  | .cleared | .filling | .filled => true
  | .free | .booked | .queued | .washing | .inspectWait | .inspecting | .held | .withdrawn => false

/-- A state in which the next class may be absent: every other state is reached with a next class (R7, R15). -/
def Lifecycle.classOptional (x : Lifecycle) : Bool :=
  match x with
  | .free | .booked | .withdrawn => true
  | .queued | .washing | .inspectWait | .inspecting | .cleared | .filling | .filled | .held => false

/-- A record carries the fields that its state gives it (R1): a plan in QUEUED and WASHING, none in other states but HELD; a binding
exactly in WASHING; a hold reason exactly in HELD; a certificate exactly in CLEARED, FILLING and FILLED, and for the next class; a
fill record exactly in FILLED; a next class where the lifecycle requires one, never class 0; tries 0..3, and 3 in HELD or WITHDRAWN
alone; and a FREE record has the values of R1. -/
def CompartmentRecord.sound (r : CompartmentRecord) : Bool :=
  decide (r.state = .free → r = CompartmentRecord.freed)
    && decide (r.state = .queued ∨ r.state = .washing → r.plan.isSome)
    && decide (r.plan.isSome → r.state = .queued ∨ r.state = .washing ∨ r.state = .held)
    && decide (r.binding.isSome ↔ r.state = .washing)
    && decide (r.hold.isSome ↔ r.state = .held)
    && decide (r.cert.isSome ↔ r.state.certified = true)
    && r.cert.all (fun c => decide (r.nextClass = some c.clearedClass))
    && decide (r.fill.isSome ↔ r.state = .filled)
    && decide (r.nextClass.isSome ∨ r.state.classOptional = true)
    && r.nextClass.all (fun c => decide (c ≠ 0))
    && decide (r.tries ≤ 3 ∧ (r.tries = 3 → r.state = .held ∨ r.state = .withdrawn))

/-- Every record of the table is as R1 gives it. -/
def RecordsSound (s : State) : Prop := ∀ i : Comp, (s.comp i).sound = true

/-- The law of the fill lanes (R160): a lane is ACTIVE or SETTLING exactly when it serves a record in FILLING, each FILLING record is
served by exactly one lane, and a lane in SETTLING has its close cause. -/
def LanesServe (s : State) : Prop :=
  (∀ l : Lane, (s.lane l).state = .idle ↔ (s.lane l).context = none)
    ∧ (∀ l : Lane, (s.lane l).state = .settling → (s.lane l).cause.isSome = true)
    ∧ (∀ (l : Lane) (x : FillContext), (s.lane l).context = some x → (s.comp x.comp).state = .filling)
    ∧ (∀ i : Comp, (s.comp i).state = .filling →
        ∃ (l : Lane) (x : FillContext), (s.lane l).context = some x ∧ x.comp = i)
    ∧ ∀ (l m : Lane) (x y : FillContext),
        (s.lane l).context = some x → (s.lane m).context = some y → x.comp = y.comp → l = m

/-- The law of the probe lines and the inspection unit (R120, R144): a record is INSPECTING exactly when one line is bound to it; a
line is bound exactly in a session; and a context is present exactly for a bound line, with its compartment. -/
def LinesServe (s : State) : Prop :=
  (∀ l : Line, (s.line l).state.inSession = true ↔ (s.line l).bound.isSome = true)
    ∧ (∀ l : Line, (s.line l).bound = (s.inspection l).map fun x => x.comp)
    ∧ (∀ (l : Line) (i : Comp), (s.line l).bound = some i → (s.comp i).state = .inspecting)
    ∧ (∀ i : Comp, (s.comp i).state = .inspecting → ∃ l : Line, (s.line l).bound = some i)
    ∧ ∀ (l m : Line) (i : Comp), (s.line l).bound = some i → (s.line m).bound = some i → l = m

end Sys2Proof.Machine
end

