-- ==== Sys2Proof/Certificates/Slice0/Obligations.lean ====
section
/-! DEFINITION. The statements for the provers. A request's next state is written `s.answered k r x data`, the state whose only change is
that the request's port holds it as taken and answers it, with the fields that the request writes. -/

open Sys2Proof Sys2Proof.Machine

/-! ## Steps and commands -/

/-- A step takes the command at the front of the queue and runs it on the queue's rest. -/
def Obligations.StepTakesFrontCommand : Prop :=
  ∀ (c : Instr) (rest : List Instr) (s : State), s.pending = c :: rest → step s = exec c { s with pending := rest }

/-- The model's choice (log 1): with no command waiting, one period of the reference clock passes, up to the end of the second; a part
held in reset stays as it is. -/
def Obligations.StepOnEmptyQueue : Prop :=
  ∀ s : State, s.pending = [] →
    step s
      = .next
          (if s.resetPin then s
           else if s.clock.period < 15999999 then { s with clock := { s.clock with period := s.clock.period + 1 } }
           else s)

/-- Every command, in every state, answers a next state and leaves the command queue as it was. -/
def Obligations.EveryCommandAnswersNext : Prop :=
  ∀ (c : Instr) (s : State), ∃ t : State, exec c s = .next t ∧ t.pending = s.pending

/-! ## Resets -/

/-- POWER_ON_RESET gives the compartment table, the tanker register and the departure queue the values of R24, and BOOK is then refused
NOT_OPEN. POWER_ON_RESET gives the configuration store its power-on values: the matrix, the limit table, the recipe slots, the staging
buffer and the 23 yard settings in identifier order. -/
def Obligations.PowerOnRecordsAndConfiguration : Prop :=
  (∀ (x : Straps) (s : State), ∃ t : State,
      exec (.powerOnReset x) s = .next t
        ∧ (∀ i : Comp,
            (t.comp i).state = .free ∧ (t.comp i).expedite = false ∧ (t.comp i).tries = 0 ∧ (t.comp i).nextClass = none
              ∧ (t.comp i).plan = none ∧ (t.comp i).binding = none ∧ (t.comp i).readings = none ∧ (t.comp i).hold = none
              ∧ (t.comp i).cert = none ∧ (t.comp i).fill = none)
        ∧ (∀ i : Tanker, t.tanker i = none) ∧ t.departures = [] ∧ t.certCounter = 1 ∧ t.yardOpen = false
        ∧ t.clock.minute = 0
        ∧ ∀ r : Request, r.port = officePort → exec (.book ⟨r, []⟩) t = .next (t.answered .book r .notOpen []))
    ∧ (∀ (x : Straps) (s : State), ∃ t : State,
        exec (.powerOnReset x) s = .next t
          ∧ (∀ a b : CargoClass, t.cell a b = if a = b ∧ a ≠ 0 then .none else .barred)
          ∧ (∀ i : Fin 31, t.limits[i] = ⟨⟨0, 0, 0, 0⟩, true⟩)
          ∧ (∀ i : RecipeSlot, t.recipe i = none)
          ∧ t.staging.stepCount = 0 ∧ t.staging.rounds = 1 ∧ (∀ i : Fin 12, t.staging.positions[i] = none)
          ∧ Setting.all.map t.setting
              = [300, 20, 4, 600, 50, 4, 10, 200, 40000, 9600, 20, 24, 16000, 60, 4, 4, 0, 0, 2, 180, 240, 20, 5])

/-- POWER_ON_RESET gives the bays, the channels and the plant arbiter their power-on values: the fitting of each bay from its strap, head
B of a one-head bay UNFITTED, nothing parked, queued, bound, claimed or granted. No dispatch attempt is owed, and the levels of HEAD_IN
and DISCHARGE_PERMIT are as they stand (logs 17 and 25). POWER_ON_RESET gives the probe lines, the inspection contexts, the clock, the
fill lanes and the ports their power-on values. A probe docked at the release starts a debounce interval of 50 ms, and the levels of the
inputs are as they stand (log 25). -/
def Obligations.PowerOnBlocks : Prop :=
  (∀ (x : Straps) (s : State), ∃ t : State,
      exec (.powerOnReset x) s = .next t
        ∧ (∀ b : Bay, t.bay b = { twoHead := x.heads[b], parked := none, queue := [], owed := 0 })
        ∧ (∀ b : Bay, (t.chan (headA b)).state = .idle
            ∧ (t.chan (headB b)).state = if x.heads[b] = true then .idle else .unfitted)
        ∧ (∀ c : Chan,
            t.chan c
              = { state := (t.chan c).state, binding := none, rehearsal := none, run := none, pauseTimer := 0,
                  pauseDue := false, drainTimer := 0, drainTime := 0, meter := 0, headDone := false, reason := none,
                  latch := ⟨false, false, false, false, false⟩, headIn := (s.chan c).headIn }
            ∧ valveLines t c = ⟨false, false, false, false, false⟩)
        ∧ t.permit = s.permit
        ∧ t.plant.capacity = ⟨4, 1, 2⟩ ∧ t.plant.scheme = .fixed ∧ t.plant.priority = [0, 1, 2, 3, 4, 5, 6, 7]
        ∧ (∀ c : Chan, t.plant.claims[c] = none ∧ t.plant.grants[c] = none ∧ t.plant.tokens[c] = ⟨0, 0⟩)
        ∧ t.plant.free = ⟨4, 1, 2⟩ ∧ t.plant.refreshTimer = 0)
    ∧ (∀ (x : Straps) (s : State), ∃ t : State,
        exec (.powerOnReset x) s = .next t
          ∧ (∀ l : Line,
              (t.line l).state = .detached ∧ (t.line l).docked = false ∧ (t.line l).pdock = (s.line l).pdock
                ∧ (t.line l).debounce = (if (s.line l).pdock = true then some 50 else none) ∧ (t.line l).bound = none
                ∧ (t.line l).bitOrder = .lsbFirst ∧ (t.line l).speed = 1 ∧ (t.line l).extraGuard = 0
                ∧ (t.line l).checkMode = .lrc ∧ (t.line l).maxLength = 0 ∧ (t.line l).exchange = ⟨[], 0, 0, none⟩
                ∧ (t.line l).lastError = none ∧ (t.line l).lastResult = none
                ∧ (t.line l).timers = ⟨none, none, none, none, none, none, none, none⟩
                ∧ (t.line l).transmissions = 0 ∧ (t.line l).badReceptions = 0
                ∧ lineOutputs t l = ⟨false, false, false, false⟩ ∧ t.inspection l = none)
          ∧ t.clock = { period := 0, second := 0, minute := 0, minuteDue := false }
          ∧ (∀ l : Lane,
              t.lane l
                = { state := .idle, context := none, counter := 0, compare := 0, capture := 0, cause := none,
                    lastOutcome := none, noFlow := 0, noFlowDue := false, settle := 0, settleTime := 0,
                    arm := (s.lane l).arm }
              ∧ valveOpen t l = false)
          ∧ (∀ p : Port,
              t.port p
                = { receiver := .seeking, buffer := [], gapRunning := false, held := none, answer := none, gapCount := 0,
                    checkCount := 0, lengthCount := 0, overrunCount := 0, countingTime := 0, flags := [],
                    masks := Vector.replicate 5 false }
              ∧ attn t p = false)
          ∧ t.portRate = x.portRate ∧ t.resetPin = false ∧ t.pending = s.pending)

/-- The model's reset state is the part after a power-on reset with the straps and the input levels of logs 7 and 8. The laws hold in the
model's reset state (logs 7 and 8). -/
def Obligations.ResetStateAndLaws : Prop :=
  (exec (.powerOnReset { heads := Vector.replicate 4 true, portRate := 0 }) State.reset = .next State.reset
      ∧ State.reset.permit = false ∧ (∀ c : Chan, (State.reset.chan c).headIn = false)
      ∧ (∀ l : Line, (State.reset.line l).pdock = false) ∧ (∀ l : Lane, (State.reset.lane l).arm = false)
      ∧ State.reset.pending = [])
    ∧ (SettingsInRange State.reset ∧ DeparturesFit State.reset ∧ TokensWithin State.reset ∧ ClockInRange State.reset
        ∧ CountersStop State.reset ∧ NoticesOrdered State.reset ∧ ListsDistinct State.reset ∧ PriorityComplete State.reset
        ∧ GrantsWithin State.reset ∧ ConfigurationSound State.reset ∧ RecordsSound State.reset ∧ LanesServe State.reset
        ∧ LinesServe State.reset)

/-- RESET_PIN_ASSERTED: while the pin is held asserted every output stands at its power-on value. The model's choice (log 22): a part held
in reset follows the levels of its inputs and takes nothing else until the power-on reset of the release. -/
def Obligations.ResetPinHoldsThePart : Prop :=
  (∀ s : State,
      exec .resetPinAsserted s = .next { s with resetPin := true }
        ∧ (s.resetPin = true →
            (∀ c : Chan, valveLines s c = ⟨false, false, false, false, false⟩)
              ∧ (∀ l : Lane, valveOpen s l = false)
              ∧ (∀ l : Line, lineOutputs s l = { pwr := false, prst := false, pclk := false, drivesData := false })
              ∧ ∀ p : Port, attn s p = false))
    ∧ (∀ s : State, s.resetPin = true →
        (∀ c : Instr, takenInReset c = false → exec c s = .next { s with resetPin := true })
          ∧ (∀ (l : Line) (level : Bool),
              exec (.pdockChange l level) s = .next (s.setLine l { s.line l with pdock := level }))
          ∧ (∀ order met : List Chan, exec (.dischargePermitDrop ⟨order, met⟩) s = .next { s with permit := false })
          ∧ exec .dischargePermitReturn s = .next { s with permit := true }
          ∧ (∀ c : Chan, exec (.headInDrop c) s = .next (s.setChan c { s.chan c with headIn := false })
              ∧ exec (.headInRise c) s = .next (s.setChan c { s.chan c with headIn := true }))
          ∧ ∀ l : Lane, exec (.armDrop l) s = .next (s.setLane l { s.lane l with arm := false })
              ∧ exec (.armRise l) s = .next (s.setLane l { s.lane l with arm := true }))

/-- What both yard resets do to the channels, the arbiter, the lines, the contexts and the lanes, and keep of the clock, the fitting, the
inputs and the notice masks. What both yard resets do to the ports: receivers to SEEKING, untaken requests discarded, an answer in
transmission and the masks kept, counters cleared; and the notices that stand after a protected reset are those of its own moves, after an
unprotected one none. The notices are stated where the law of the lanes holds. A protected yard reset keeps the tables, the queues and the
certificates and moves the records in flight: WASHING to HELD INTERRUPTED, INSPECTING to INSPECT_WAIT, FILLING to FILLED with outcome
INTERRUPTED or, for a count of 0, to CLEARED. An unprotected yard reset frees every record and entry, empties the queues, sets the
certificate counter to 1 and closes the yard; the configuration store and the clock keep their contents. Any other protect value is
refused BAD_ARG. -/
def Obligations.YardReset : Prop :=
  (∀ (r : Request) (s : State), Asked s .yardReset r → r.payload = [0] ∨ r.payload = [1] →
      ∃ t : State,
        exec (.yardReset r) s = .next t
          ∧ (∀ c : Chan,
              t.chan c
                = { state := if (s.chan c).state = .unfitted then .unfitted else .idle, binding := none, rehearsal := none,
                    run := none, pauseTimer := 0, pauseDue := false, drainTimer := 0, drainTime := 0, meter := 0,
                    headDone := false, reason := none, latch := ⟨false, false, false, false, false⟩,
                    headIn := (s.chan c).headIn })
          ∧ t.plant
              = { s.plant with
                  priority := [0, 1, 2, 3, 4, 5, 6, 7], claims := Vector.replicate 8 none
                  grants := Vector.replicate 8 none, refreshTimer := 0, refreshDue := false
                  tokens :=
                    Vector.ofFn fun c : Chan =>
                      { allowance := (s.plant.tokens[c]).allowance, remaining := (s.plant.tokens[c]).allowance } }
          ∧ (∀ l : Line,
              t.inspection l = none ∧ (t.line l).bound = none ∧ (t.line l).exchange = ⟨[], 0, 0, none⟩
                ∧ (t.line l).lastError = none ∧ (t.line l).lastResult = none
                ∧ (t.line l).docked = (s.line l).docked ∧ (t.line l).debounce = (s.line l).debounce
                ∧ (t.line l).pdock = (s.line l).pdock ∧ (t.line l).divider = (s.line l).divider
                ∧ (t.line l).received = [] ∧ (t.line l).badLength = false ∧ (t.line l).sending = none
                ∧ (t.line l).transmissions = 0 ∧ (t.line l).badReceptions = 0
                ∧ (t.line l).bitOrder = (s.line l).bitOrder ∧ (t.line l).speed = (s.line l).speed
                ∧ (t.line l).extraGuard = (s.line l).extraGuard ∧ (t.line l).checkMode = (s.line l).checkMode
                ∧ (t.line l).maxLength = (s.line l).maxLength
                ∧ ((s.line l).state = .detached ∨ (s.line l).state = .docked →
                    (t.line l).state = (s.line l).state
                      ∧ (t.line l).timers = ⟨none, none, none, none, none, none, none, none⟩)
                ∧ ((s.line l).state = .closing → (t.line l).state = .closing
                    ∧ (t.line l).timers = ⟨none, none, none, none, none, none, none, (s.line l).timers.off⟩)
                ∧ ((s.line l).state.inSession = true → (t.line l).state = .closing
                    ∧ (t.line l).timers
                        = ⟨none, none, none, none, none, none, none,
                            some ⟨s.setting .powerOffTime, bitPeriod (s.line l).speed⟩⟩))
          ∧ (∀ l : Lane,
              t.lane l
                = if (s.lane l).state = .idle then s.lane l
                  else
                    { s.lane l with
                      state := .idle, context := none, cause := none, capture := (s.lane l).counter
                      lastOutcome := some .interrupted, noFlow := 0, noFlowDue := false, settle := 0, settleTime := 0 })
          ∧ t.clock = s.clock ∧ t.permit = s.permit ∧ t.portRate = s.portRate
          ∧ ∀ b : Bay, (t.bay b).twoHead = (s.bay b).twoHead ∧ (t.bay b).owed = 0)
    ∧ (∀ (r : Request) (s : State), Asked s .yardReset r → r.payload = [0] ∨ r.payload = [1] →
        ∃ t : State,
          exec (.yardReset r) s = .next t
            ∧ (∀ p : Port, p ≠ officePort →
                t.port p
                  = { s.port p with
                      receiver := .seeking, buffer := [], gapRunning := false
                      held := (s.port p).held.filter fun h => h.taken, gapCount := 0, checkCount := 0, lengthCount := 0
                      overrunCount := 0, countingTime := 0, flags := [] })
            ∧ t.port officePort
                = { (s.port officePort).answered 0x36 0xB6 r .ok [] with
                    gapCount := 0, checkCount := 0, lengthCount := 0, overrunCount := 0, countingTime := 0
                    flags := (t.port officePort).flags }
            ∧ (LanesServe s → ∀ n : Notice, n ∈ (t.port officePort).flags ↔
                r.payload = [1]
                  ∧ ((∃ i : Comp, (s.comp i).state = .washing ∧ n = ⟨1, i.val + 1⟩)
                    ∨ ∃ (l : Lane) (x : FillContext), (s.lane l).state ≠ .idle ∧ (s.lane l).context = some x
                        ∧ (s.comp x.comp).state = .filling ∧ 0 < (s.lane l).counter ∧ n = ⟨4, x.comp.val + 1⟩)))
    ∧ (∀ (r : Request) (s : State), Asked s .yardReset r → r.payload = [1] → LanesServe s →
        ∃ t : State,
          exec (.yardReset r) s = .next t
            ∧ t.tankers = s.tankers ∧ t.departures = s.departures ∧ t.certCounter = s.certCounter ∧ t.yardOpen = s.yardOpen
            ∧ (∀ b : Bay, t.bay b = { s.bay b with owed := 0 })
            ∧ (∀ i : Comp,
                let x := s.comp i
                (x.state = .washing →
                    t.comp i = { x with state := .held, hold := some .interrupted, binding := none, cert := none })
                  ∧ (x.state = .inspecting → t.comp i = { x with state := .inspectWait })
                  ∧ (x.state ≠ .washing → x.state ≠ .inspecting → x.state ≠ .filling → t.comp i = x))
            ∧ ∀ (l : Lane) (y : FillContext), (s.lane l).context = some y →
                let x := s.comp y.comp
                ((s.lane l).counter = 0 → t.comp y.comp = { x with state := .cleared })
                  ∧ (0 < (s.lane l).counter →
                      t.comp y.comp
                        = { x with
                            state := .filled
                            fill :=
                              some
                                { lane := l, product := y.product, authorized := y.volume, metered := (s.lane l).counter,
                                  outcome := .interrupted } }))
    ∧ (∀ (r : Request) (s : State), Asked s .yardReset r →
        (r.payload = [0] →
            ∃ t : State,
              exec (.yardReset r) s = .next t
                ∧ t = { s with
                        comps := Vector.replicate 96 CompartmentRecord.freed, tankers := Vector.replicate 16 none
                        departures := [], certCounter := 1, yardOpen := false, bays := t.bays, channels := t.channels
                        plant := t.plant, lines := t.lines, inspections := t.inspections, lanes := t.lanes
                        ports := t.ports }
                ∧ ∀ b : Bay, t.bay b = { twoHead := (s.bay b).twoHead, parked := none, queue := [], owed := 0 })
          ∧ ∀ n : Byte, 1 < n.toNat → r.payload = [n] → exec (.yardReset r) s = .next (s.answered .yardReset r .badArg []))

/-! ## Requests, answers and refusals -/

/-- The catalogue of requests: kind codes 01h to 36h in order, and a request accepted for its owner from a port whose column reads Yes and
refused NOT_PERMITTED from the others. -/
def Obligations.RequestCatalogue : Prop :=
  RequestKind.all.map RequestKind.code = (List.range 54).map (· + 1)
    ∧ (∀ k : RequestKind, k ∈ RequestKind.all)
    ∧ (∀ (k : RequestKind) (p : Port), k.permitted p = true ↔ k ∈ (portRole p).column)
    ∧ ∀ (k : RequestKind) (r : Request) (s : State), Listening s r.port →
        (k ∈ (portRole r.port).column →
            exec (request k r) s
              = .next ((k.owner r (s.taking k r)).1.answering k r (k.owner r (s.taking k r)).2))
          ∧ (k ∉ (portRole r.port).column → exec (request k r) s = .next (s.answered k r .notPermitted []))

/-- A refused request changes no state of the part beyond its port's answer, which is the result code alone; an answer has the kind of its
request plus 80h and its tag. -/
def Obligations.RefusalChangesNothing : Prop :=
  ∀ (k : RequestKind) (r : Request) (s : State), Listening s r.port →
    ∃ (x : ResultCode) (data : List Byte) (t : State),
      exec (request k r) s = .next t
        ∧ (t.port r.port).answer = some ⟨byte (k.code + 0x80), r.tag, byte x.code :: data⟩
        ∧ (t.port r.port).held = some ⟨byte k.code, r.tag, r.payload, true⟩
        ∧ (x ≠ .ok → data = [] ∧ t = s.answered k r x [])

/-- A complete frame that the port already holds and no owner has taken is the request that its owner takes (log 3). A frame that
completes while the port holds another request, or one already taken, is discarded and counted: the held request is not affected and the
counter stops at 255. FRAME_OVERRUN is that event named by itself. A frame whose kind names no request is refused BAD_KIND: the answer
carries the kind plus 80h for 00h and 37h..7Fh, and FFh for 80h..FFh. -/
def Obligations.FramesThatComplete : Prop :=
  (∀ (k : RequestKind) (r : Request) (s : State),
      s.resetPin = false → (s.port r.port).held = some ⟨byte k.code, r.tag, r.payload, false⟩ → k.permitted r.port = true →
        let u := s.setPort r.port { s.port r.port with held := some ⟨byte k.code, r.tag, r.payload, true⟩ }
        exec (request k r) s = .next ((k.owner r u).1.answering k r (k.owner r u).2))
    ∧ (∀ (k : RequestKind) (r : Request) (h : HeldRequest) (s : State),
        s.resetPin = false → (s.port r.port).held = some h →
          (h.taken = true ∨ h.kind ≠ byte k.code ∨ h.tag ≠ r.tag ∨ h.payload ≠ r.payload →
              exec (request k r) s
                = .next
                    (s.setPort r.port
                      { s.port r.port with
                        receiver := .seeking, buffer := [], gapRunning := false
                        overrunCount :=
                          if (s.port r.port).overrunCount < 255 then (s.port r.port).overrunCount + 1
                          else (s.port r.port).overrunCount }))
            ∧ exec (.frameOverrun r.port) s
                = .next
                    (s.setPort r.port
                      { s.port r.port with
                        receiver := .seeking, buffer := [], gapRunning := false
                        overrunCount :=
                          if (s.port r.port).overrunCount < 255 then (s.port r.port).overrunCount + 1
                          else (s.port r.port).overrunCount }))
    ∧ (∀ (kind : Byte) (r : Request) (s : State), Listening s r.port →
        ((kind.toNat = 0 ∨ (0x37 ≤ kind.toNat ∧ kind.toNat ≤ 0x7F)) →
            exec (.badKindRequest kind r) s
              = .next (s.setPort r.port ((s.port r.port).answered kind (kind + 0x80) r .badKind [])))
          ∧ (0x80 ≤ kind.toNat →
            exec (.badKindRequest kind r) s
              = .next (s.setPort r.port ((s.port r.port).answered kind 0xFF r .badKind []))))

/-- What the receiver does with each character, state by state: start bytes, lengths 2..60, the bytes of kind, tag and payload, and
framing errors. A frame is two bytes and L bytes long before its CRC. A frame that completes on a port that holds nothing is held, and a
PORT_STATUS is taken at once by its port; that PORT_CHARACTER_RECEIVED completes a frame, and when a PORT_STATUS is taken, are the model's
choices of logs 3 and 4. The characters of a frame, received one after another by a port in SEEKING that holds nothing, leave its request
held. FRAME_DROPPED and GAP_TIMEOUT drop the frame without an answer and count it where its cause says; ANSWER_SENT ends the holding of
the request. That FRAME_DROPPED counts in every receiver state, SEEKING among them, and that the other three change nothing with no frame,
no request or no answer, is the model's choice (log 5). The station port CRC of a run of bytes, each byte least significant bit first, is
the remainder of the bits, followed by 16 zeros, on division by x^16 + x^15 + x^2 + 1, its own bits in that order too. -/
def Obligations.Receiver : Prop :=
  (∀ (p : Port) (ch : PortChar) (s : State), s.resetPin = false →
      let q := s.port p
      let seek : StationPort := { q with receiver := .seeking, buffer := [], gapRunning := false }
      let checkError : StationPort := { seek with checkCount := if q.checkCount < 255 then q.checkCount + 1 else q.checkCount }
      (q.receiver = .seeking →
          exec (.portCharacterReceived p ch) s
            = .next
                (if ch.value = 0xD3 ∧ ch.framingError = false then
                   s.setPort p { q with receiver := .length, buffer := [0xD3], gapRunning := true }
                 else s))
        ∧ (q.receiver ≠ .seeking → ch.framingError = true →
            exec (.portCharacterReceived p ch) s = .next (s.setPort p checkError))
        ∧ (q.receiver = .length → ch.framingError = false →
            exec (.portCharacterReceived p ch) s
              = .next
                  (s.setPort p
                    (if 2 ≤ ch.value.toNat ∧ ch.value.toNat ≤ 60 then
                       { q with receiver := .body, buffer := q.buffer ++ [ch.value], gapRunning := true }
                     else { seek with lengthCount := if q.lengthCount < 255 then q.lengthCount + 1 else q.lengthCount })))
        ∧ (q.receiver = .body → ch.framingError = false → q.buffer.length < frameLength q.buffer + 2 →
            exec (.portCharacterReceived p ch) s
              = .next
                  (s.setPort p
                    { q with
                      receiver := if q.buffer.length + 1 = frameLength q.buffer + 2 then .check else .body
                      buffer := q.buffer ++ [ch.value], gapRunning := true }))
        ∧ (q.receiver = .check → ch.framingError = false → q.buffer.length + 1 < frameLength q.buffer + 4 →
            exec (.portCharacterReceived p ch) s
              = .next (s.setPort p { q with buffer := q.buffer ++ [ch.value], gapRunning := true }))
        ∧ ∀ (kind tag low : Byte) (payload : List Byte), payload.length ≤ 58 → q.receiver = .check →
            q.buffer = (0xD3 :: byte (payload.length + 2) :: kind :: tag :: payload) ++ [low] → ch.framingError = false →
              let good := [low, ch.value] = word2 (portCrc (byte (payload.length + 2) :: kind :: tag :: payload)).toNat
              (¬good → exec (.portCharacterReceived p ch) s = .next (s.setPort p checkError))
                ∧ (good → q.held ≠ none →
                    exec (.portCharacterReceived p ch) s
                      = .next
                          (s.setPort p
                            { seek with
                              overrunCount := if q.overrunCount < 255 then q.overrunCount + 1 else q.overrunCount }))
                ∧ (good → q.held = none → kind ≠ 0x33 →
                    exec (.portCharacterReceived p ch) s
                      = .next (s.setPort p { seek with held := some ⟨kind, tag, payload, false⟩ }))
                ∧ (good → q.held = none → kind = 0x33 →
                    exec (.portCharacterReceived p ch) s = exec (.portStatus ⟨p, tag, payload⟩) s))
    ∧ (∀ (kind tag : Byte) (payload : List Byte) (q : StationPort),
        payload.length ≤ 58 → q.receiver = .seeking → q.held = none →
          (frameBytes kind tag payload).foldl (fun x b => x.receive ⟨b, false⟩) q
            = { q with
                receiver := .seeking, buffer := [], gapRunning := false, held := some ⟨kind, tag, payload, false⟩ })
    ∧ (∀ (p : Port) (s : State), s.resetPin = false →
        let q := s.port p
        let seek : StationPort := { q with receiver := .seeking, buffer := [], gapRunning := false }
        let up (n : Nat) : Nat := if n < 255 then n + 1 else n
        exec (.frameDropped p .badLength) s = .next (s.setPort p { seek with lengthCount := up q.lengthCount })
          ∧ exec (.frameDropped p .framingError) s = .next (s.setPort p { seek with checkCount := up q.checkCount })
          ∧ exec (.frameDropped p .crcMismatch) s = .next (s.setPort p { seek with checkCount := up q.checkCount })
          ∧ exec (.gapTimeout p) s
              = .next (if q.receiver = .seeking then s else s.setPort p { seek with gapCount := up q.gapCount })
          ∧ exec (.answerSent p) s
              = .next (if q.answer = none then s else s.setPort p { q with held := none, answer := none })
          ∧ (q.held = none → exec (.frameOverrun p) s = .next s))
    ∧ ((∀ l : List Byte, MultipleOf 0x18005 ((messageBits (l.map BitVec.reverse) <<< 16) ^^^ (portCrc l).reverse.toNat))
        ∧ portCrc [0x31, 0x32, 0x33, 0x34, 0x35, 0x36, 0x37, 0x38, 0x39] = 0xBB3D)

/-- A payload whose length differs from its request's layout is refused BAD_ARG, behind NOT_OPEN alone. That no other check stands before
this one is the model's reading of R179 (log 19). The common checks of a request that names a channel: BAD_ARG outside 1..8, NOT_PERMITTED
for another bay's channel from a bay port, UNFIT for an UNFITTED channel. -/
def Obligations.CommonChecks : Prop :=
  (∀ (k : RequestKind) (n : Nat) (r : Request) (s : State), k.payloadLength = some n → r.payload.length ≠ n → Asked s k r →
      (k ∈ openOnly → s.yardOpen = true) → exec (request k r) s = .next (s.answered k r .badArg []))
    ∧ (∀ (k : RequestKind) (r : Request) (s : State) (n : Byte) (rest : List Byte),
        k ∈ [.cancelBinding, .startRun, .startRehearsal, .abortRun, .clearFault, .serviceEnter, .serviceLatch, .serviceClaim,
             .serviceRelease, .serviceExit] →
        Asked s k r → r.payload = n :: rest → k.payloadLength = some (rest.length + 1) → (k ∈ openOnly → s.yardOpen = true) →
          (NamesNone 8 n → exec (request k r) s = .next (s.answered k r .badArg []))
            ∧ ∀ c : Chan, Names n c →
                ((∃ b : Bay, r.port = bayPort b ∧ bayOf c ≠ b) →
                    exec (request k r) s = .next (s.answered k r .notPermitted []))
                  ∧ (r.port = officePort ∨ r.port = bayPort (bayOf c) → (s.chan c).state = .unfitted →
                    exec (request k r) s = .next (s.answered k r .unfit [])))

/-- FETCH_NOTICE clears and returns the flag of the highest-priority unmasked kind and, within it, of the lowest subject; with none set it
answers 0 and 0 and changes nothing. -/
def Obligations.FetchNotice : Prop :=
  ∀ (r : Request) (s : State), Asked s .fetchNotice r → r.payload = [] →
    let q := s.port r.port
    ((∀ n ∈ q.flags, q.masked n.kind = true) → exec (.fetchNotice r) s = .next (s.answered .fetchNotice r .ok [0, 0]))
      ∧ (NoticesOrdered s → (∃ n ∈ q.flags, q.masked n.kind = false) →
          ∃ n ∈ q.flags, q.masked n.kind = false
            ∧ (∀ m ∈ q.flags, q.masked m.kind = false →
                m = n ∨ n.kind < m.kind ∨ (n.kind = m.kind ∧ n.subject < m.subject))
            ∧ exec (.fetchNotice r) s
                = .next
                    (s.setPort r.port
                      { q.answered 0x31 0xB1 r .ok [byte n.kind, byte n.subject] with
                        flags := q.flags.filter fun m => decide (m ≠ n) }))

/-- SET_NOTICE_MASK sets the mask of a kind of its own port's role and leaves the flags; a kind of no such role or a value other than 0 or
1 is refused BAD_ARG. ATTN is asserted while a flag of an unmasked kind is set. PORT_STATUS reports role, rate, counters, counting time,
masks, the number of set flags of unmasked kinds and ATTN, and then clears the counters and the counting time. -/
def Obligations.NoticeMasksAndPortStatus : Prop :=
  ((∀ (r : Request) (s : State) (kind value : Byte), Asked s .setNoticeMask r → r.payload = [kind, value] →
      let last := match portRole r.port with
        | .office => 5
        | .bay _ => 4
        | .fill => 1
      (kind.toNat = 0 ∨ last < kind.toNat ∨ 1 < value.toNat →
          exec (.setNoticeMask r) s = .next (s.answered .setNoticeMask r .badArg []))
        ∧ (∀ i : Fin 5, kind.toNat = i.val + 1 → i.val < last → value.toNat ≤ 1 →
            exec (.setNoticeMask r) s
              = .next
                  (s.setPort r.port
                    { (s.port r.port).answered 0x32 0xB2 r .ok [] with
                      masks := (s.port r.port).masks.set i.val (decide (value = 1)) i.isLt })))
      ∧ ∀ (p : Port) (s : State), s.resetPin = false →
          (attn s p = true ↔ ∃ n ∈ (s.port p).flags, (s.port p).masked n.kind = false))
    ∧ (∀ (r : Request) (s : State), Asked s .portStatus r → r.payload = [] →
        let q := s.port r.port
        exec (.portStatus r) s
          = .next
              (s.setPort r.port
                { q.answered 0x33 0xB3 r .ok
                    ([byte r.port.val, byte s.portRate.val, byte q.gapCount, byte q.checkCount, byte q.lengthCount,
                        byte q.overrunCount]
                      ++ word2 q.countingTime ++ (q.masks.toList.take (kindCount r.port)).map flag
                      ++ word2 (q.flags.countP fun n => !q.masked n.kind) ++ [flag (attn s r.port)]) with
                  gapCount := 0, checkCount := 0, lengthCount := 0, overrunCount := 0, countingTime := 0 }))

/-! ## Configuration store -/

/-- The yard-open flag is clear after power-on and after an unprotected yard reset and kept by a protected one; OPEN_YARD alone sets it.
While it is clear the six requests are refused NOT_OPEN; while it is set they go on to their own checks. -/
def Obligations.YardOpenFlag : Prop :=
  (∀ (x : Straps) (s : State), ∃ t : State, exec (.powerOnReset x) s = .next t ∧ t.yardOpen = false)
    ∧ (∀ (r : Request) (s : State), Asked s .openYard r → r.payload = [] →
        exec (.openYard r) s = .next { s.answered .openYard r .ok [] with yardOpen := true })
    ∧ (∀ (r : Request) (s : State), Asked s .yardReset r →
        (r.payload = [0] → ∃ t : State, exec (.yardReset r) s = .next t ∧ t.yardOpen = false)
          ∧ (r.payload = [1] → ∃ t : State, exec (.yardReset r) s = .next t ∧ t.yardOpen = s.yardOpen))
    ∧ (∀ (c : Instr) (s t : State), exec c s = .next t → (∀ x, c ≠ .powerOnReset x) → (∀ r, c ≠ .openYard r) →
        (∀ r, c ≠ .yardReset r) → t.yardOpen = s.yardOpen)
    ∧ ∀ (k : RequestKind) (r : Request) (s : State), k ∈ openOnly → Asked s k r →
        (s.yardOpen = false → exec (request k r) s = .next (s.answered k r .notOpen []))
          ∧ (s.yardOpen = true → exec (request k r) s ≠ .next (s.answered k r .notOpen []))

/-- WRITE_MATRIX_ROW replaces a whole row, or is refused BAD_ARG and writes no cell; READ_MATRIX_ROW reports a row as it stands.
WRITE_LIMITS replaces a whole entry or is refused BAD_ARG; READ_LIMITS reports an entry. That an inspection-required byte other than 1 and
0 is out of range is the model's reading of R190 (log 20). -/
def Obligations.MatrixRowsAndLimits : Prop :=
  ((∀ (r : Request) (s : State) (row : CargoClass) (cells : Vector Cell 32), Asked s .writeMatrixRow r →
        r.payload = byte row.val :: cells.toList.map (fun x => byte x.code) →
          ((∃ c : CargoClass, ∃ x : RecipeSlot, cells[c] = .slot x ∧ s.recipe x = none) →
              exec (.writeMatrixRow r) s = .next (s.answered .writeMatrixRow r .badArg []))
            ∧ ((∀ (c : CargoClass) (x : RecipeSlot), cells[c] = .slot x → s.recipe x ≠ none) →
              exec (.writeMatrixRow r) s
                = .next { s.answered .writeMatrixRow r .ok [] with matrix := s.matrix.set row.val cells row.isLt }))
      ∧ (∀ (r : Request) (s : State) (n : Byte) (cells : List Byte), Asked s .writeMatrixRow r → r.payload = n :: cells →
          (31 < n.toNat ∨ ∃ b ∈ cells, 16 < b.toNat) →
            exec (.writeMatrixRow r) s = .next (s.answered .writeMatrixRow r .badArg []))
      ∧ (∀ (r : Request) (s : State) (n : Byte), Asked s .readMatrixRow r → r.payload = [n] →
          (31 < n.toNat → exec (.readMatrixRow r) s = .next (s.answered .readMatrixRow r .badArg []))
            ∧ ∀ row : CargoClass, n.toNat = row.val →
                exec (.readMatrixRow r) s
                  = .next (s.answered .readMatrixRow r .ok ((List.finRange 32).map fun c => byte (s.cell row c).code))))
    ∧ ((∀ (r : Request) (s : State) (n q : Byte) (m : Measures), Asked s .writeLimits r →
          m.film < 65536 → m.turbidity < 65536 → m.conductivity < 65536 → m.depth < 65536 →
          r.payload = n :: measureBytes m ++ [q] →
            (NamesNone 31 n ∨ 1000 < m.film ∨ 4000 < m.turbidity ∨ 20000 < m.conductivity ∨ 500 < m.depth ∨ 1 < q.toNat →
                exec (.writeLimits r) s = .next (s.answered .writeLimits r .badArg []))
              ∧ ∀ i : Fin 31, Names n i → m.film ≤ 1000 → m.turbidity ≤ 4000 → m.conductivity ≤ 20000 → m.depth ≤ 500 →
                  q.toNat ≤ 1 →
                    exec (.writeLimits r) s
                      = .next
                          { s.answered .writeLimits r .ok [] with
                            limits := s.limits.set i.val ⟨m, decide (q = 1)⟩ i.isLt })
        ∧ ∀ (r : Request) (s : State) (n : Byte), Asked s .readLimits r → r.payload = [n] →
            (NamesNone 31 n → exec (.readLimits r) s = .next (s.answered .readLimits r .badArg []))
              ∧ ∀ i : Fin 31, Names n i →
                  exec (.readLimits r) s
                    = .next
                        (s.answered .readLimits r .ok
                          (measureBytes (s.limits[i]).maxima ++ [flag (s.limits[i]).inspectionRequired])))

/-- CLEAR_STAGING empties the staging buffer. WRITE_STAGING_STEP stores a step that meets R41 at a position 1..12, raising the step count
where the position lies beyond it; any other step or position is refused BAD_ARG. That a dose or drain byte other than 1 and 0 is out of
range is the model's reading of R190 (log 20). SET_STAGING_ROUNDS sets the buffer's round count to a value 1..4 and leaves the step count
and the positions; another value is refused BAD_ARG. LOAD_STAGING copies a DEFINED slot's recipe into the buffer: round count, step count,
the steps in order, every position beyond them unwritten. A slot outside 1..15 is refused BAD_ARG and an EMPTY one NO_SUCH. -/
def Obligations.StagingBuffer : Prop :=
  (∀ (r : Request) (s : State), Asked s .clearStaging r → r.payload = [] →
      exec (.clearStaging r) s
        = .next
            { s.answered .clearStaging r .ok [] with
              staging := { stepCount := 0, rounds := 1, positions := Vector.replicate 12 none } })
    ∧ ((∀ (r : Request) (s : State) (n : Byte) (x : RecipeStep), Asked s .writeStagingStep r → x.fitsBytes = true →
          r.payload = n :: stepBytes x →
            (NamesNone 12 n ∨ ¬x.meetsR41 →
                exec (.writeStagingStep r) s = .next (s.answered .writeStagingStep r .badArg []))
              ∧ ∀ i : Fin 12, Names n i → x.meetsR41 →
                  exec (.writeStagingStep r) s
                    = .next
                        { s.answered .writeStagingStep r .ok [] with
                          staging :=
                            { s.staging with
                              stepCount := max s.staging.stepCount (i.val + 1)
                              positions := s.staging.positions.set i.val (some x) i.isLt } })
        ∧ ∀ (r : Request) (s : State) (n : Byte) (fields : List Byte), Asked s .writeStagingStep r → r.payload = n :: fields →
            (∀ x : RecipeStep, x.fitsBytes = true → fields ≠ stepBytes x) →
              exec (.writeStagingStep r) s = .next (s.answered .writeStagingStep r .badArg []))
    ∧ (∀ (r : Request) (s : State) (n : Byte), Asked s .setStagingRounds r → r.payload = [n] →
        exec (.setStagingRounds r) s
          = .next
              (if 1 ≤ n.toNat ∧ n.toNat ≤ 4 then
                 { s.answered .setStagingRounds r .ok [] with staging := { s.staging with rounds := n.toNat } }
               else s.answered .setStagingRounds r .badArg []))
    ∧ (∀ (r : Request) (s : State) (n : Byte), Asked s .loadStaging r → r.payload = [n] →
        (NamesNone 15 n → exec (.loadStaging r) s = .next (s.answered .loadStaging r .badArg []))
          ∧ ∀ i : RecipeSlot, Names n i →
              (s.recipe i = none → exec (.loadStaging r) s = .next (s.answered .loadStaging r .noSuch []))
                ∧ ∀ x : Recipe, s.recipe i = some x →
                    ∃ t : State, exec (.loadStaging r) s = .next t
                      ∧ t = { s.answered .loadStaging r .ok [] with staging := t.staging }
                      ∧ t.staging.rounds = x.rounds ∧ t.staging.stepCount = x.steps.length
                      ∧ ∀ j : Fin 12, t.staging.positions[j] = x.steps[j.val]?)

/-- COMMIT_RECIPE: the checks in order, then the slot holds the buffer's round count and its steps in order, and the buffer stays.
ERASE_RECIPE: the checks in order, then the slot is EMPTY. -/
def Obligations.RecipeSlots : Prop :=
  (∀ (r : Request) (s : State) (n : Byte), Asked s .commitRecipe r → r.payload = [n] →
      (NamesNone 15 n → exec (.commitRecipe r) s = .next (s.answered .commitRecipe r .badArg []))
        ∧ ∀ i : RecipeSlot, Names n i → s.staging.stepCount ≤ 12 →
            let gap := s.staging.stepCount = 0 ∨ ∃ j : Fin 12, j.val < s.staging.stepCount ∧ s.staging.positions[j] = none
            let inUse :=
              (∃ k : Comp, ∃ p : Plan, ((s.comp k).state = .queued ∨ (s.comp k).state = .washing)
                  ∧ (s.comp k).plan = some p ∧ p.slot = i)
                ∨ ∃ c : Chan, (s.chan c).rehearsal = some i
            (gap → exec (.commitRecipe r) s = .next (s.answered .commitRecipe r .badArg []))
              ∧ (¬gap → inUse → exec (.commitRecipe r) s = .next (s.answered .commitRecipe r .inUse []))
              ∧ (¬gap → ¬inUse →
                  ∃ steps : List RecipeStep, steps.length = s.staging.stepCount
                    ∧ (∀ j : Fin 12, j.val < s.staging.stepCount → s.staging.positions[j] = steps[j.val]?)
                    ∧ exec (.commitRecipe r) s
                        = .next
                            { s.answered .commitRecipe r .ok [] with
                              recipes := s.recipes.set i.val (some ⟨s.staging.rounds, steps⟩) i.isLt }))
    ∧ (∀ (r : Request) (s : State) (n : Byte), Asked s .eraseRecipe r → r.payload = [n] →
        (NamesNone 15 n → exec (.eraseRecipe r) s = .next (s.answered .eraseRecipe r .badArg []))
          ∧ ∀ i : RecipeSlot, Names n i →
              let inUse :=
                (∃ k : Comp, ∃ p : Plan, ((s.comp k).state = .queued ∨ (s.comp k).state = .washing)
                    ∧ (s.comp k).plan = some p ∧ p.slot = i)
                  ∨ (∃ c : Chan, (s.chan c).rehearsal = some i) ∨ ∃ a b : CargoClass, s.cell a b = .slot i
              (s.recipe i = none → exec (.eraseRecipe r) s = .next (s.answered .eraseRecipe r .noSuch []))
                ∧ (s.recipe i ≠ none → inUse → exec (.eraseRecipe r) s = .next (s.answered .eraseRecipe r .inUse []))
                ∧ (s.recipe i ≠ none → ¬inUse →
                    exec (.eraseRecipe r) s
                      = .next { s.answered .eraseRecipe r .ok [] with recipes := s.recipes.set i.val none i.isLt }))

/-- The 23 yard settings with their identifiers, ranges and power-on values; SET_YARD stores a value in range and READ_YARD reports it;
both yard resets keep every setting. -/
def Obligations.YardSettings : Prop :=
  Setting.all.map (fun x => (x.index.val + 1, x.range.1, x.range.2, x.powerOn))
      = [(1, 10, 1800, 300), (2, 0, 120, 20), (3, 1, 15, 4), (4, 60, 3600, 600), (5, 10, 250, 50), (6, 4, 64, 4),
         (7, 1, 100, 10), (8, 50, 2000, 200), (9, 10000, 60000, 40000), (10, 1000, 20000, 9600), (11, 1, 250, 20),
         (12, 16, 255, 24), (13, 100, 100000, 16000), (14, 12, 1000, 60), (15, 1, 7, 4), (16, 1, 7, 4), (17, 0, 1, 0),
         (18, 0, 1, 0), (19, 1, 3, 2), (20, 1, 730, 180), (21, 30, 720, 240), (22, 5, 120, 20), (23, 1, 60, 5)]
    ∧ (∀ (r : Request) (s : State) (n a b c : Byte), Asked s .setYard r → r.payload = [n, a, b, c] →
        (NamesNone 23 n → exec (.setYard r) s = .next (s.answered .setYard r .badArg []))
          ∧ ∀ x : Setting, Names n x.index →
              let v := a.toNat + 256 * b.toNat + 65536 * c.toNat
              exec (.setYard r) s
                = .next
                    (if x.range.1 ≤ v ∧ v ≤ x.range.2 then
                       { s.answered .setYard r .ok [] with settings := s.settings.set x.index.val v x.index.isLt }
                     else s.answered .setYard r .badArg []))
    ∧ (∀ (r : Request) (s : State) (n : Byte), Asked s .readYard r → r.payload = [n] →
        (NamesNone 23 n → exec (.readYard r) s = .next (s.answered .readYard r .badArg []))
          ∧ ∀ x : Setting, Names n x.index →
              exec (.readYard r) s = .next (s.answered .readYard r .ok (word3 (s.setting x))))
    ∧ (∀ (x : Straps) (s : State), ∃ t : State, exec (.powerOnReset x) s = .next t
        ∧ ∀ y : Setting, t.setting y = y.powerOn)
    ∧ ∀ (r : Request) (s : State), Asked s .yardReset r → ∃ t : State, exec (.yardReset r) s = .next t
        ∧ t.settings = s.settings

/-- Each part of the configuration is changed by its own requests and by POWER_ON_RESET alone: both yard resets and every other command
keep it. A BOOK or a PARK that carries a write between its readings is no other command: that the write comes with it is the model's
choice (log 31). -/
def Obligations.ConfigurationIsKept : Prop :=
  ∀ (c : Instr) (s t : State), exec c s = .next t → (∀ x, c ≠ .powerOnReset x) →
    ((∀ r, c ≠ .writeMatrixRow r) → (∀ x, c = .book x ∨ c = .park x → ∀ l ∈ x.between, ∀ r, .writeMatrixRow r ∉ l) →
          t.matrix = s.matrix)
      ∧ ((∀ r, c ≠ .writeLimits r) → (∀ x, c = .book x ∨ c = .park x → ∀ l ∈ x.between, ∀ r, .writeLimits r ∉ l) →
          t.limits = s.limits)
      ∧ ((∀ r, c ≠ .commitRecipe r) → (∀ r, c ≠ .eraseRecipe r) → t.recipes = s.recipes)
      ∧ ((∀ r, c ≠ .clearStaging r) → (∀ r, c ≠ .writeStagingStep r) → (∀ r, c ≠ .setStagingRounds r) →
          (∀ r, c ≠ .loadStaging r) → t.staging = s.staging)
      ∧ ((∀ r, c ≠ .setYard r) → t.settings = s.settings)
      ∧ ((∀ r, c ≠ .setHotCapacity r) → t.plant.hotCapacity = s.plant.hotCapacity)
      ∧ ((∀ r, c ≠ .setPriorityScheme r) → t.plant.scheme = s.plant.scheme)
      ∧ t.portRate = s.portRate ∧ ∀ b : Bay, (t.bay b).twoHead = (s.bay b).twoHead

/-! ## Reads -/

/-- READ_COMPARTMENT, READ_TANKER, READ_STAGING, READ_RECIPE and READ_CLOCK answer OK with what stands and change no state; an index or
slot out of range is refused BAD_ARG. READ_BAY, CHANNEL_STATUS and READ_ARBITER answer OK with what stands and change no state.
LINE_STATUS and LANE_STATUS answer OK with what stands and change no state; another name is refused BAD_ARG. The bytes of READ_TANKER,
READ_STAGING, READ_RECIPE, READ_BAY, CHANNEL_STATUS, READ_ARBITER, LINE_STATUS and LANE_STATUS are laid out as log 21 reads the general
rules, and CHANNEL_STATUS of another bay's channel is answered by log 32. -/
def Obligations.ReadsOfTheState : Prop :=
  (∀ (r : Request) (s : State) (n : Byte),
      (Asked s .readCompartment r → r.payload = [n] →
          (NamesNone 96 n → exec (.readCompartment r) s = .next (s.answered .readCompartment r .badArg []))
            ∧ ∀ i : Comp, Names n i →
                exec (.readCompartment r) s
                  = .next (s.answered .readCompartment r .ok (compartmentBytes i (s.comp i))))
        ∧ (Asked s .readTanker r → r.payload = [n] →
            (NamesNone 16 n → exec (.readTanker r) s = .next (s.answered .readTanker r .badArg []))
              ∧ ∀ i : Tanker, Names n i →
                  (s.tanker i = none → exec (.readTanker r) s = .next (s.answered .readTanker r .ok [1]))
                    ∧ ∀ t : TankerData, s.tanker i = some t →
                        exec (.readTanker r) s
                          = .next
                              (s.answered .readTanker r .ok
                                ([if t.bay = none then 2 else 3] ++ word2 t.fleet ++ [byte t.compartments.length]
                                  ++ t.compartments.map (fun k => byte (k.val + 1))
                                  ++ [byte (t.bay.elim 0 fun b => b.val + 1)] ++ word3 t.arrival)))
        ∧ (Asked s .readRecipe r → r.payload = [n] →
            (NamesNone 15 n → exec (.readRecipe r) s = .next (s.answered .readRecipe r .badArg []))
              ∧ ∀ i : RecipeSlot, Names n i →
                  (s.recipe i = none → exec (.readRecipe r) s = .next (s.answered .readRecipe r .ok [1]))
                    ∧ ∀ x : Recipe, s.recipe i = some x →
                        exec (.readRecipe r) s
                          = .next
                              (s.answered .readRecipe r .ok
                                ([2, byte x.rounds, byte x.steps.length] ++ (x.steps.map stepBytes).flatten)))
        ∧ (Asked s .readStaging r → r.payload = [] →
            exec (.readStaging r) s
              = .next
                  (s.answered .readStaging r .ok
                    ([byte s.staging.stepCount, byte s.staging.rounds]
                      ++ ((s.staging.positions.toList.take s.staging.stepCount).map positionBytes).flatten)))
        ∧ (Asked s .readClock r → r.payload = [] →
            exec (.readClock r) s
              = .next (s.answered .readClock r .ok (word3 s.clock.minute ++ [byte s.clock.second]))))
    ∧ (∀ (r : Request) (s : State) (n : Byte),
        (Asked s .readBay r → r.payload = [n] →
            (NamesNone 4 n → exec (.readBay r) s = .next (s.answered .readBay r .badArg []))
              ∧ ∀ b : Bay, Names n b →
                  let head (c : Chan) : List Byte :=
                    [byte (s.chan c).state.code, byte ((s.chan c).binding.elim 0 fun x => x.comp.val + 1)]
                  exec (.readBay r) s
                    = .next
                        (s.answered .readBay r .ok
                          ([if (s.bay b).twoHead then 2 else 1, byte ((s.bay b).parked.elim 0 fun i => i.val + 1),
                              byte (s.bay b).queue.length]
                            ++ ((s.bay b).queue.map fun i => [byte (i.val + 1), flag (s.comp i).expedite]).flatten
                            ++ head (headA b) ++ head (headB b))))
          ∧ (Asked s .channelStatus r → r.payload = [n] →
              (NamesNone 8 n → exec (.channelStatus r) s = .next (s.answered .channelStatus r .badArg []))
                ∧ ∀ c : Chan, Names n c →
                    let x := s.chan c
                    let run := runOf s c
                    let five (l : Lines) : List Byte := [flag l.cold, flag l.hot, flag l.steam, flag l.dose, flag l.drain]
                    let claim := s.plant.claimUnits (leadOf s c)
                    let grant := s.plant.grantUnits (leadOf s c)
                    exec (.channelStatus r) s
                      = .next
                          (s.answered .channelStatus r .ok
                            ([byte x.state.code, byte (x.binding.elim 0 fun y => y.comp.val + 1),
                                byte (x.binding.elim 0 fun y => y.role.code), byte (x.rehearsal.elim 0 fun y => y.val + 1),
                                byte (run.elim 0 fun y => y.slot.val + 1), byte (run.elim 0 fun y => y.step),
                                byte (run.elim 0 fun y => y.passCounter), byte (run.elim 0 fun y => y.rounds)]
                              ++ word2 (run.elim 0 fun y => y.passTimer) ++ word2 (run.elim 0 fun y => y.runningTime)
                              ++ word2 (s.chan (leadOf s c)).pauseTimer
                              ++ [byte x.drainTimer, byte x.meter, byte (x.meter / 256), flag x.headDone, flag x.headIn,
                                  flag s.permit]
                              ++ five (valveLines s c) ++ five x.latch
                              ++ [byte claim.hot, byte claim.steam, byte claim.doser, byte grant.hot, byte grant.steam,
                                  byte grant.doser, byte (x.reason.elim 0 Reason.code)])))
          ∧ (Asked s .readArbiter r → r.payload = [] →
              let a := s.plant
              let units (u : Units) : List Byte := [byte u.hot, byte u.steam, byte u.doser]
              let tokens (c : Chan) : List Byte :=
                word2 (a.tokens[c]).allowance ++ word2 (a.tokens[c]).remaining
                  ++ [if (a.tokens[c]).allowance ≠ 0 ∧ (a.tokens[c]).remaining = 0 then 1 else 2]
              let waiting := a.passOrder
              let claim (c : Chan) : List Byte :=
                match a.claims[c] with
                | none => []
                | some k => [byte (c.val + 1), byte k.kind.code] ++ units k.units ++ [byte k.skips, flag k.anchored]
              let holding := (List.finRange 8).filter fun c => (a.grants[c]).isSome
              let grant (c : Chan) : List Byte :=
                match a.grants[c] with
                | none => []
                | some g =>
                  [byte (c.val + 1), if g.pair then byte ((headB (bayOf c)).val + 1) else 0, byte g.kind.code] ++ units g.units
              exec (.readArbiter r) s
                = .next
                    (s.answered .readArbiter r .ok
                      ([byte a.hotCapacity, 1, 2] ++ units a.free ++ [byte a.scheme.code]
                        ++ a.priority.map (fun c => byte (c.val + 1))
                        ++ [byte (s.setting .skipLimit)] ++ word2 (s.setting .refreshPeriod) ++ word2 a.refreshTimer
                        ++ ((List.finRange 8).map tokens).flatten
                        ++ [byte waiting.length] ++ (waiting.map claim).flatten
                        ++ [byte holding.length] ++ (holding.map grant).flatten))))
    ∧ (∀ (r : Request) (s : State) (n : Byte), r.payload = [n] →
        (Asked s .lineStatus r →
            (NamesNone 2 n → exec (.lineStatus r) s = .next (s.answered .lineStatus r .badArg []))
              ∧ ∀ l : Line, Names n l →
                  let x := s.line l
                  exec (.lineStatus r) s
                    = .next
                        (s.answered .lineStatus r .ok
                          [byte x.state.code, flag x.docked, byte (x.bound.elim 0 fun i => i.val + 1),
                            byte x.bitOrder.code, byte x.speed, byte (bitPeriod x.speed), byte (bitPeriod x.speed / 256),
                            byte x.extraGuard, byte x.checkMode.code, byte x.maxLength, byte x.exchange.waits,
                            byte x.exchange.repeats, byte (x.exchange.factor.elim 0 fun f => f),
                            byte (x.lastError.elim 0 LinkError.code), byte (x.lastResult.elim 0 InspectionOutcome.code)]))
          ∧ (Asked s .laneStatus r →
              (NamesNone 2 n → exec (.laneStatus r) s = .next (s.answered .laneStatus r .badArg []))
                ∧ ∀ l : Lane, Names n l →
                    let x := s.lane l
                    exec (.laneStatus r) s
                      = .next
                          (s.answered .laneStatus r .ok
                            ([byte x.state.code, byte (x.context.elim 0 fun y => y.comp.val + 1),
                                x.context.elim 0xFF fun y => byte y.product.val]
                              ++ word2 (x.context.elim 0 fun y => y.volume) ++ word2 x.counter ++ word2 x.compare
                              ++ word2 x.capture
                              ++ [byte (x.cause.elim 0 FillOutcome.code), byte (x.lastOutcome.elim 0 FillOutcome.code),
                                  byte x.noFlow, byte x.settle, flag (decide (x.state = .active)), flag x.arm]))))

/-- The layout of the READ_COMPARTMENT answer after its result code: a FREE record is its index and state; any other fills 43 bytes, each
at its place, with 0 where its presence bit is clear. -/
def Obligations.CompartmentLayout : Prop :=
  ∀ (i : Comp) (c : CompartmentRecord),
    (c.state = .free → compartmentBytes i c = [byte (i.val + 1), 0])
      ∧ (c.state ≠ .free →
          let bit (b : Bool) (n : Nat) : Nat := if b then n else 0
          compartmentBytes i c
            = [byte (i.val + 1), byte c.state.code,
                byte (bit c.nextClass.isSome 1 + bit c.plan.isSome 2 + bit c.binding.isSome 4 + bit c.readings.isSome 8
                  + bit c.hold.isSome 16 + bit c.cert.isSome 32 + bit c.fill.isSome 64),
                byte (c.tanker.val + 1), byte c.position, byte c.capacity, byte (c.capacity / 256), byte c.hatches,
                byte c.lastClass.val, byte (c.nextClass.elim 0 fun x => x.val), flag c.expedite, byte c.tries,
                byte (c.plan.elim 0 fun x => x.slot.val + 1), byte (c.plan.elim 0 fun x => x.roundsDone)]
              ++ (match c.binding with
                  | none => [0, 0]
                  | some (.single x) => [byte (x.val + 1), 0]
                  | some (.pair b) => [byte (2 * b.val + 1), byte (2 * b.val + 2)])
              ++ (match c.readings with
                  | none => List.replicate 9 0
                  | some x =>
                    word2 x.worst.film ++ word2 x.worst.turbidity ++ word2 x.worst.conductivity ++ word2 x.worst.depth
                      ++ [byte (bit (.film ∈ x.failed) 1 + bit (.turbidity ∈ x.failed) 2
                            + bit (.conductivity ∈ x.failed) 4 + bit (.depth ∈ x.failed) 8)])
              ++ [byte (c.hold.elim 0 HoldReason.code), byte (c.hold.elim 0 HoldReason.subCode)]
              ++ (match c.cert with
                  | none => List.replicate 9 0
                  | some x => word2 x.number ++ word3 x.issue ++ [byte x.clearedClass.val] ++ word3 x.expiry)
              ++ (match c.fill with
                  | none => List.replicate 7 0
                  | some x =>
                    [byte (x.lane.val + 1), byte x.product.val] ++ word2 x.authorized ++ word2 x.metered
                      ++ [byte x.outcome.code])
            ∧ (compartmentBytes i c).length = 43)

/-! ## Compartment table -/

/-- BOOK's checks in order: NOT_OPEN, then BAD_ARG for a payload that spells no fleet number and descriptions in range, IN_USE, BARRED and
TABLE_FULL, each leaving the table and the register as they were. An accepted BOOK takes the lowest FREE tanker slot and the lowest FREE
records, which become BOOKED in position order, and answers with the slot and the indices. -/
def Obligations.Book : Prop :=
  (∀ (r : Request) (between : List (List Between)) (s : State), Asked s .book r →
      (s.yardOpen = false → exec (.book ⟨r, between⟩) s = .next (s.answered .book r .notOpen []))
        ∧ (s.yardOpen = true → (∀ fleet ds, BookInRange fleet ds → r.payload ≠ bookPayload fleet ds) →
            exec (.book ⟨r, between⟩) s = .next (s.answered .book r .badArg []))
        ∧ ∀ (fleet : Nat) (ds : List Description), s.yardOpen = true → BookInRange fleet ds →
            r.payload = bookPayload fleet ds →
              let inUse := ∃ (i : Tanker) (t : TankerData), s.tanker i = some t ∧ t.fleet = fleet
              let barred := ∃ d ∈ ds, ∃ c : CargoClass, d.nextClass = some c ∧ s.cell d.lastClass c = .barred
              let full :=
                (∀ i : Tanker, s.tanker i ≠ none)
                  ∨ ((List.finRange 96).countP fun i => decide ((s.comp i).state = .free)) < ds.length
              (inUse → exec (.book ⟨r, between⟩) s = .next (s.answered .book r .inUse []))
                ∧ (¬inUse → barred → exec (.book ⟨r, []⟩) s = .next (s.answered .book r .barred []))
                ∧ (¬inUse → ¬barred → full → exec (.book ⟨r, []⟩) s = .next (s.answered .book r .tableFull [])))
    ∧ (∀ (r : Request) (s : State) (fleet : Nat) (ds : List Description) (slot : Tanker), Asked s .book r →
        s.yardOpen = true → BookInRange fleet ds → r.payload = bookPayload fleet ds →
        (∀ (i : Tanker) (t : TankerData), s.tanker i = some t → t.fleet ≠ fleet) →
        (∀ d ∈ ds, ∀ c : CargoClass, d.nextClass = some c → s.cell d.lastClass c ≠ .barred) →
        s.tanker slot = none → (∀ i < slot, s.tanker i ≠ none) →
        ds.length ≤ ((List.finRange 96).countP fun i => decide ((s.comp i).state = .free)) →
          let taken := ((List.finRange 96).filter fun i => decide ((s.comp i).state = .free)).take ds.length
          ∃ t : State,
            exec (.book ⟨r, []⟩) s = .next t
              ∧ t = { s.answered .book r .ok
                        ([byte (slot.val + 1), byte ds.length] ++ taken.map fun i => byte (i.val + 1)) with
                      comps := t.comps
                      tankers :=
                        s.tankers.set slot.val
                          (some { fleet := fleet, compartments := taken, arrival := s.clock.minute, bay := none })
                          slot.isLt }
              ∧ taken.length = ds.length
              ∧ (∀ (k : Nat) (i : Comp) (d : Description), taken[k]? = some i → ds[k]? = some d →
                  t.comp i
                    = { state := .booked, tanker := slot, position := k + 1, capacity := d.capacity, hatches := d.hatches,
                        lastClass := d.lastClass, nextClass := d.nextClass, plan := none, expedite := false,
                        binding := none, tries := 0, readings := none, hold := none, cert := none, fill := none })
              ∧ ∀ i : Comp, i ∉ taken → t.comp i = s.comp i)

/-- What a queue-in does with each kind of matrix cell: a recipe slot plans and queues the record at the tail, NONE sends it to
INSPECT_WAIT or issues it a certificate as the limit entry says, BARRED takes its next class. A certificate's number is the first,
counting upward from the counter and wrapping from 65535 to 1, that no record and no departure copy holds; its class is the record's next
class and its expiry the minute of issue plus VALIDITY; the counter goes to the number after it. -/
def Obligations.QueueInAndCertificate : Prop :=
  (∀ (b : Bay) (i : Comp) (c : CargoClass) (k : Fin 31) (s : State),
      (s.comp i).nextClass = some c → c.val = k.val + 1 →
        let x := s.comp i
        (∀ p : RecipeSlot, s.cell x.lastClass c = .slot p →
            queueIn b i s
              = (s.setComp i { x with state := .queued, plan := some { slot := p, roundsDone := 0 } }).setBay b
                  { s.bay b with queue := (s.bay b).queue ++ [i] })
          ∧ (s.cell x.lastClass c = .none → (s.limits[k]).inspectionRequired = true →
              queueIn b i s = s.setComp i { x with state := .inspectWait })
          ∧ (s.cell x.lastClass c = .none → (s.limits[k]).inspectionRequired = false →
              queueIn b i s = issueCertificate i s
                ∧ ∃ n : Certificate,
                    n.clearedClass = c
                      ∧ queueIn b i s
                          = raiseNotice officePort 3 (i.val + 1)
                              { s.setComp i { x with state := .cleared, cert := some n } with
                                certCounter := if n.number < 65535 then n.number + 1 else 1 })
          ∧ (s.cell x.lastClass c = .barred → queueIn b i s = s.setComp i { x with nextClass := none }))
    ∧ (∀ (i : Comp) (c : CargoClass) (s : State), (s.comp i).nextClass = some c → DeparturesFit s → 1 ≤ s.certCounter →
        s.certCounter ≤ 65535 →
          let up (k : Nat) : Nat := (s.certCounter - 1 + k) % 65535 + 1
          let heldNumber (n : Nat) : Prop :=
            (∃ (j : Comp) (x : Certificate), (s.comp j).cert = some x ∧ x.number = n)
              ∨ ∃ d ∈ s.departures, ∃ x : Certificate, d.cert = some x ∧ x.number = n
          ∃ k : Nat,
            ¬heldNumber (up k) ∧ (∀ j < k, heldNumber (up j))
              ∧ issueCertificate i s
                  = raiseNotice officePort 3 (i.val + 1)
                      { s.setComp i
                          { s.comp i with
                            state := .cleared
                            cert :=
                              some
                                { number := up k, issue := s.clock.minute, clearedClass := c,
                                  expiry := (s.clock.minute + s.setting .validity) % 16777216 } } with
                        certCounter := up (k + 1) })

/-- A minute value is reached at a count when the difference modulo 2^24 lies in 0..8388607. -/
def Obligations.MinuteComparison : Prop :=
  ∀ m c : Nat, m < 16777216 → c < 16777216 →
    (minuteReached m c = true ↔ ((c : Int) - (m : Int)) % 16777216 ≤ 8388607)

/-- SET_NEXT_CLASS: the checks in order; then the class is set, and where the tanker is PARKED the record is queued in within the request,
with one dispatch attempt caused when it joins the queue. The answer carries the record's state. DISPOSE: the checks in order; REINSPECT
makes a HELD record INSPECT_WAIT, and REWASH makes it BOOKED and, where its tanker is PARKED, queues it in at once. Hold reason, plan and
rounds done are cleared and the tries set to 0; the readings and the next class stay. -/
def Obligations.SetNextClassAndDispose : Prop :=
  (∀ (r : Request) (s : State) (n k : Byte), Asked s .setNextClass r → r.payload = [n, k] →
      (NamesNone 96 n → exec (.setNextClass r) s = .next (s.answered .setNextClass r .badArg []))
        ∧ ∀ i : Comp, Names n i →
            let x := s.comp i
            (x.state = .free → exec (.setNextClass r) s = .next (s.answered .setNextClass r .noSuch []))
              ∧ (x.state ≠ .free → k.toNat = 0 ∨ 31 < k.toNat →
                  exec (.setNextClass r) s = .next (s.answered .setNextClass r .badArg []))
              ∧ ∀ c : CargoClass, k.toNat = c.val → c ≠ 0 →
                  (x.state ≠ .free → x.state ≠ .booked →
                      exec (.setNextClass r) s = .next (s.answered .setNextClass r .wrongState []))
                    ∧ (x.state = .booked → s.cell x.lastClass c = .barred →
                        exec (.setNextClass r) s = .next (s.answered .setNextClass r .barred []))
                    ∧ (x.state = .booked → s.cell x.lastClass c ≠ .barred → parkedBay i s = none →
                        exec (.setNextClass r) s
                          = .next ((s.answered .setNextClass r .ok [1]).setComp i { x with nextClass := some c }))
                    ∧ ∀ b : Bay, x.state = .booked → s.cell x.lastClass c ≠ .barred → parkedBay i s = some b →
                        let u := queueIn b i ((s.taking .setNextClass r).setComp i { x with nextClass := some c })
                        let v :=
                          if (u.comp i).state = .queued then u.setBay b { u.bay b with owed := (u.bay b).owed + 1 } else u
                        exec (.setNextClass r) s
                          = .next (v.answering .setNextClass r ⟨.ok, [byte (u.comp i).state.code]⟩))
    ∧ (∀ (r : Request) (s : State) (n a : Byte), Asked s .dispose r → r.payload = [n, a] →
        (NamesNone 96 n → exec (.dispose r) s = .next (s.answered .dispose r .badArg []))
          ∧ ∀ i : Comp, Names n i →
              let x := s.comp i
              (x.state = .free → exec (.dispose r) s = .next (s.answered .dispose r .noSuch []))
                ∧ (x.state ≠ .free → a ≠ 1 → a ≠ 2 → exec (.dispose r) s = .next (s.answered .dispose r .badArg []))
                ∧ (x.state ≠ .free → x.state ≠ .held → a = 1 ∨ a = 2 →
                    exec (.dispose r) s = .next (s.answered .dispose r .wrongState []))
                ∧ (x.state = .held → a = 2 →
                    exec (.dispose r) s
                      = .next
                          ((s.answered .dispose r .ok [4]).setComp i
                            { x with state := .inspectWait, hold := none, plan := none, tries := 0 }))
                ∧ (x.state = .held → a = 1 → parkedBay i s = none →
                    exec (.dispose r) s
                      = .next
                          ((s.answered .dispose r .ok [1]).setComp i
                            { x with state := .booked, hold := none, plan := none, tries := 0 }))
                ∧ ∀ b : Bay, x.state = .held → a = 1 → parkedBay i s = some b →
                    let u :=
                      queueIn b i
                        ((s.taking .dispose r).setComp i { x with state := .booked, hold := none, plan := none, tries := 0 })
                    let v :=
                      if (u.comp i).state = .queued then u.setBay b { u.bay b with owed := (u.bay b).owed + 1 } else u
                    exec (.dispose r) s = .next (v.answering .dispose r ⟨.ok, [byte (u.comp i).state.code]⟩))

/-- WITHDRAW takes a BOOKED, INSPECT_WAIT, CLEARED or HELD record out of the yard's work: certificate, hold reason and plan go, next
class, readings and tries stay. Any other state is refused WRONG_STATE. DEPART: the checks in order; then one departure record for each
compartment joins the tail of the queue in position order, the records and the entry become FREE, and DEPARTURE_WAITING is raised.
TAKE_DEPARTURE removes and answers the oldest departure record and raises DEPARTURE_WAITING again while records remain; an empty queue
answers OK alone. -/
def Obligations.WithdrawAndDepart : Prop :=
  (∀ (r : Request) (s : State) (n : Byte), Asked s .withdraw r → r.payload = [n] →
      (NamesNone 96 n → exec (.withdraw r) s = .next (s.answered .withdraw r .badArg []))
        ∧ ∀ i : Comp, Names n i →
            let x := s.comp i
            let allowed := x.state = .booked ∨ x.state = .inspectWait ∨ x.state = .cleared ∨ x.state = .held
            (x.state = .free → exec (.withdraw r) s = .next (s.answered .withdraw r .noSuch []))
              ∧ (x.state ≠ .free → ¬allowed → exec (.withdraw r) s = .next (s.answered .withdraw r .wrongState []))
              ∧ (allowed →
                  exec (.withdraw r) s
                    = .next
                        ((s.answered .withdraw r .ok []).setComp i
                          { x with state := .withdrawn, cert := none, hold := none, plan := none })))
    ∧ (∀ (r : Request) (s : State) (n : Byte), Asked s .depart r → r.payload = [n] →
        (NamesNone 16 n → exec (.depart r) s = .next (s.answered .depart r .badArg []))
          ∧ ∀ i : Tanker, Names n i →
              (s.tanker i = none → exec (.depart r) s = .next (s.answered .depart r .noSuch []))
                ∧ ∀ t : TankerData, s.tanker i = some t →
                    let held :=
                      t.bay ≠ none
                        ∨ ∃ k ∈ t.compartments, (s.comp k).state = .washing ∨ (s.comp k).state = .inspecting
                            ∨ (s.comp k).state = .filling
                    let record (k : Comp) : Departure :=
                      { fleet := t.fleet, position := (s.comp k).position, lastClass := (s.comp k).lastClass,
                        finalState := (s.comp k).state, cert := (s.comp k).cert, fill := (s.comp k).fill,
                        minute := s.clock.minute }
                    (held → exec (.depart r) s = .next (s.answered .depart r .wrongState []))
                      ∧ (¬held → 32 < s.departures.length + t.compartments.length →
                          exec (.depart r) s = .next (s.answered .depart r .queueFull []))
                      ∧ (¬held → s.departures.length + t.compartments.length ≤ 32 →
                          ∃ u : State,
                            exec (.depart r) s = .next u
                              ∧ u = raiseNotice officePort 5 0
                                      { s.answered .depart r .ok [byte t.compartments.length] with
                                        comps := u.comps
                                        tankers := s.tankers.set i.val none i.isLt
                                        departures := s.departures ++ t.compartments.map record }
                              ∧ (∀ k ∈ t.compartments, u.comp k = CompartmentRecord.freed)
                              ∧ ∀ k : Comp, k ∉ t.compartments → u.comp k = s.comp k))
    ∧ (∀ (r : Request) (s : State), Asked s .takeDeparture r → r.payload = [] →
        (s.departures = [] → exec (.takeDeparture r) s = .next (s.answered .takeDeparture r .ok []))
          ∧ ∀ (d : Departure) (ds : List Departure), s.departures = d :: ds →
              let u : State :=
                { s.answered .takeDeparture r .ok
                    (word2 d.fleet ++ [byte d.position, byte d.lastClass.val, byte d.finalState.code] ++ certBytes d.cert
                      ++ fillBytes d.fill ++ word3 d.minute) with
                  departures := ds }
              exec (.takeDeparture r) s = .next (if ds = [] then u else raiseNotice officePort 5 0 u))

/-! ## Bays and dispatch -/

/-- PARK's checks in order, each refusal leaving the bay, the register and the records as they were. An accepted PARK makes the entry
PARKED with the bay, queues in, in position order, every BOOKED record of the tanker whose next class is present, causes one dispatch
attempt, and answers the states after the queue-ins. After a PARK of a tanker whose list names no record twice, the bay's queue has grown
by the BOOKED records whose cell names a recipe, in position order, each QUEUED with that plan; records in other states keep them. What
comes between two readings of a BOOK or a PARK acts as its own command does, and each record of a PARK reads its cell, and for NONE its
limit entry, after what comes before that reading (R34). That a command carries what falls between its readings is the model's way to give
each reading its moment (log 31). An accepted PARK completes whatever comes between its readings: it queues in its records one by one,
each on what stands at the moment of its own readings, causes one dispatch attempt, and answers the states after the queue-ins. BOOK holds
the Office port, which alone writes the configuration store, until its answer is sent: a write that comes between its readings is an
overrun there, and its effect and its answer are those of a BOOK with nothing between. -/
def Obligations.Park : Prop :=
  (∀ (r : Request) (between : List (List Between)) (s : State) (b : Bay) (n : Byte), Asked s .park r → r.port = bayPort b →
      r.payload = [n] →
      (s.yardOpen = false → exec (.park ⟨r, between⟩) s = .next (s.answered .park r .notOpen []))
        ∧ (s.yardOpen = true → NamesNone 16 n → exec (.park ⟨r, between⟩) s = .next (s.answered .park r .badArg []))
        ∧ ∀ i : Tanker, s.yardOpen = true → Names n i →
            (s.tanker i = none → exec (.park ⟨r, between⟩) s = .next (s.answered .park r .noSuch []))
              ∧ ∀ t : TankerData, s.tanker i = some t →
                  let stands := t.bay ≠ none ∨ ∃ k ∈ t.compartments, (s.comp k).state = .filling
                  let twoHatch := ∃ k ∈ t.compartments, (s.comp k).hatches = 2
                  (stands → exec (.park ⟨r, between⟩) s = .next (s.answered .park r .wrongState []))
                    ∧ (¬stands → (s.bay b).parked ≠ none → exec (.park ⟨r, between⟩) s = .next (s.answered .park r .busy []))
                    ∧ (¬stands → (s.bay b).parked = none → (s.bay b).twoHead = false → twoHatch →
                        exec (.park ⟨r, between⟩) s = .next (s.answered .park r .unfit [])))
    ∧ (∀ (r : Request) (s : State) (b : Bay) (n : Byte) (i : Tanker) (t : TankerData), Asked s .park r → r.port = bayPort b →
        r.payload = [n] → s.yardOpen = true → Names n i → s.tanker i = some t → t.bay = none →
        (∀ k ∈ t.compartments, (s.comp k).state ≠ .filling) → (s.bay b).parked = none →
        ((s.bay b).twoHead = true ∨ ∀ k ∈ t.compartments, (s.comp k).hatches ≠ 2) →
          let parked :=
            ((s.taking .park r).setTanker i (some { t with bay := some b })).setBay b { s.bay b with parked := some i }
          let u :=
            t.compartments.foldl
              (fun v k => if (v.comp k).state = .booked ∧ (v.comp k).nextClass ≠ none then queueIn b k v else v) parked
          exec (.park ⟨r, []⟩) s
            = .next
                ((u.setBay b { u.bay b with owed := (u.bay b).owed + 1 }).answering .park r
                  ⟨.ok, byte t.compartments.length :: t.compartments.map fun k => byte (u.comp k).state.code⟩))
    ∧ (∀ (r : Request) (s : State) (b : Bay) (n : Byte) (i : Tanker) (t : TankerData), Asked s .park r → r.port = bayPort b →
        r.payload = [n] → s.yardOpen = true → Names n i → s.tanker i = some t → t.bay = none → t.compartments.Nodup →
        (∀ k ∈ t.compartments, (s.comp k).state ≠ .filling) → (s.bay b).parked = none →
        ((s.bay b).twoHead = true ∨ ∀ k ∈ t.compartments, (s.comp k).hatches ≠ 2) →
          let planOf (k : Comp) : Option RecipeSlot :=
            match (s.comp k).nextClass with
            | none => none
            | some c =>
              match s.cell (s.comp k).lastClass c with
              | .slot p => some p
              | .none | .barred => none
          let joins (k : Comp) : Bool := decide ((s.comp k).state = .booked) && (planOf k).isSome
          ∃ u : State,
            exec (.park ⟨r, []⟩) s = .next u
              ∧ u.bay b
                  = { s.bay b with
                      parked := some i, queue := (s.bay b).queue ++ t.compartments.filter joins, owed := (s.bay b).owed + 1 }
              ∧ u.tankers = s.tankers.set i.val (some { t with bay := some b }) i.isLt
              ∧ (∀ (k : Comp) (p : RecipeSlot), k ∈ t.compartments → (s.comp k).state = .booked → planOf k = some p →
                  u.comp k = { s.comp k with state := .queued, plan := some { slot := p, roundsDone := 0 } })
              ∧ (∀ k : Comp, k ∉ t.compartments ∨ (s.comp k).state ≠ .booked ∨ (s.comp k).nextClass = none →
                  u.comp k = s.comp k)
              ∧ u = { s with
                      comps := u.comps, tankers := u.tankers, bays := s.bays.set b.val (u.bay b) b.isLt, ports := u.ports
                      certCounter := u.certCounter })
    ∧ ((∀ (e : Between) (s : State), s.resetPin = false → exec (betweenCommand e) s = .next (takeBetween s e))
        ∧ ∀ (b : Bay) (i : Comp) (l : List Comp) (gaps : List (List Between)) (s : State),
            queueInAll b [] gaps s = s
              ∧ ((s.comp i).state ≠ .booked ∨ (s.comp i).nextClass = none →
                  queueInAll b (i :: l) gaps s = queueInAll b l gaps s)
              ∧ ∀ c : CargoClass, (s.comp i).state = .booked → (s.comp i).nextClass = some c →
                  let atCell := (gaps.headD []).foldl takeBetween s
                  let atEntry := ((gaps.drop 1).headD []).foldl takeBetween atCell
                  let cell := atCell.cell (s.comp i).lastClass c
                  (cell ≠ .none →
                      queueInAll b (i :: l) gaps s = queueInAll b l (gaps.drop 1) (queueInOn cell b i atCell))
                    ∧ (cell = .none →
                        queueInAll b (i :: l) gaps s = queueInAll b l (gaps.drop 2) (queueInOn .none b i atEntry)))
    ∧ (∀ (r : Request) (between : List (List Between)) (s : State) (b : Bay) (n : Byte) (i : Tanker) (t : TankerData),
        Asked s .park r → r.port = bayPort b → r.payload = [n] → s.yardOpen = true → Names n i → s.tanker i = some t →
        t.bay = none → (∀ k ∈ t.compartments, (s.comp k).state ≠ .filling) → (s.bay b).parked = none →
        ((s.bay b).twoHead = true ∨ ∀ k ∈ t.compartments, (s.comp k).hatches ≠ 2) →
          let parked :=
            ((s.taking .park r).setTanker i (some { t with bay := some b })).setBay b { s.bay b with parked := some i }
          let u := queueInAll b t.compartments between parked
          exec (.park ⟨r, between⟩) s
            = .next
                ((u.setBay b { u.bay b with owed := (u.bay b).owed + 1 }).answering .park r
                  ⟨.ok, byte t.compartments.length :: t.compartments.map fun k => byte (u.comp k).state.code⟩))
    ∧ (∀ (r : Request) (between : List (List Between)) (s : State), Asked s .book r → (s.port officePort).answer = none →
        ∃ t u : State,
          exec (.book ⟨r, []⟩) s = .next u ∧ exec (.book ⟨r, between⟩) s = .next t ∧ t = { u with ports := t.ports }
            ∧ t.port officePort = { u.port officePort with overrunCount := (t.port officePort).overrunCount })

/-- UNPARK: the checks in order; then every QUEUED record of the tanker becomes BOOKED with no plan and expedite no, the queue is empty,
the entry is PRESENT and the bay has no tanker. EXPEDITE: a QUEUED record is marked and moves to the front of its bay queue, the others
keep their order, and one dispatch attempt is caused. Any other state is refused WRONG_STATE. -/
def Obligations.UnparkAndExpedite : Prop :=
  (∀ (r : Request) (s : State) (n : Byte), Asked s .unpark r → r.payload = [n] →
      (NamesNone 16 n → exec (.unpark r) s = .next (s.answered .unpark r .badArg []))
        ∧ ∀ i : Tanker, Names n i →
            (s.tanker i = none → exec (.unpark r) s = .next (s.answered .unpark r .noSuch []))
              ∧ ∀ t : TankerData, s.tanker i = some t →
                  (∀ b : Bay, r.port = bayPort b → t.bay ≠ some b →
                      exec (.unpark r) s = .next (s.answered .unpark r .notPermitted []))
                    ∧ (r.port = officePort → t.bay = none →
                        exec (.unpark r) s = .next (s.answered .unpark r .wrongState []))
                    ∧ ∀ b : Bay, t.bay = some b → r.port = officePort ∨ r.port = bayPort b →
                        let busy :=
                          (∃ c : Chan, bayOf c = b ∧ ((s.chan c).state = .bound ∨ (s.chan c).state = .claiming
                              ∨ (s.chan c).state = .running ∨ (s.chan c).state = .paused ∨ (s.chan c).state = .stopping))
                            ∨ ∃ k ∈ t.compartments, (s.comp k).state = .inspecting
                        (busy → exec (.unpark r) s = .next (s.answered .unpark r .busy []))
                          ∧ (¬busy →
                              ∃ u : State,
                                exec (.unpark r) s = .next u
                                  ∧ u = { s.answered .unpark r .ok
                                            [byte (t.compartments.countP fun k => decide ((s.comp k).state = .queued))] with
                                          comps := u.comps
                                          tankers := s.tankers.set i.val (some { t with bay := none }) i.isLt
                                          bays := s.bays.set b.val { s.bay b with parked := none, queue := [] } b.isLt }
                                  ∧ ∀ k : Comp,
                                      u.comp k
                                        = if k ∈ t.compartments ∧ (s.comp k).state = .queued then
                                            { s.comp k with state := .booked, plan := none, expedite := false }
                                          else s.comp k))
    ∧ (∀ (r : Request) (s : State) (n : Byte), Asked s .expedite r → r.payload = [n] →
        (NamesNone 96 n → exec (.expedite r) s = .next (s.answered .expedite r .badArg []))
          ∧ ∀ i : Comp, Names n i →
              ((s.comp i).state = .free → exec (.expedite r) s = .next (s.answered .expedite r .noSuch []))
                ∧ ((s.comp i).state ≠ .free → (s.comp i).state ≠ .queued →
                    exec (.expedite r) s = .next (s.answered .expedite r .wrongState []))
                ∧ ∀ b : Bay, (s.comp i).state = .queued → parkedBay i s = some b →
                    exec (.expedite r) s
                      = .next
                          (((s.answered .expedite r .ok []).setComp i { s.comp i with expedite := true }).setBay b
                            { s.bay b with
                              queue := i :: (s.bay b).queue.filter fun k => decide (k ≠ i), owed := (s.bay b).owed + 1 }))

/-- A dispatch attempt follows the table of bindings: it binds the front to head A, to head B or to both, and goes on with the new front;
it ends at an empty queue, at a front that cannot be bound, and in a bay with no parked tanker. The count is of the channels bound.
REQUEST_DISPATCH makes one dispatch attempt in the bay it names and answers the number of channels bound; a bay outside 1..4 from the
Office port, an argument from a bay port, and none or more than one from the Office port are refused BAD_ARG. DISPATCH_ATTEMPT makes an
attempt that an event has caused; with none caused it changes nothing (log 17). That attempts are owed to the bay until DISPATCH_ATTEMPT
makes them is the model's choice of log 17. -/
def Obligations.Dispatch : Prop :=
  (∀ (b : Bay) (s : State),
      let idle (c : Chan) : Prop := (s.chan c).state = .idle
      let bound (i : Comp) (role : Role) (c : Chan) (t : State) : State :=
        raiseNotice (bayPort b) 3 (headNumber c)
          (t.setChan c { t.chan c with state := .bound, binding := some { comp := i, role := role } })
      ((s.bay b).parked = none ∨ (s.bay b).queue = [] → dispatch b s = (s, 0))
        ∧ ∀ (i : Comp) (rest : List Comp), (s.bay b).parked ≠ none → (s.bay b).queue = i :: rest →
            (s.comp i).state = .queued → (s.comp i).hatches = 1 ∨ (s.comp i).hatches = 2 →
              let left : State := s.setBay b { s.bay b with queue := rest }
              let washing (x : Binding) : State :=
                left.setComp i { s.comp i with state := .washing, binding := some x, expedite := false }
              ((s.comp i).hatches = 1 → idle (headA b) →
                  let t := bound i .single (headA b) (washing (.single (headA b)))
                  dispatch b s = ((dispatch b t).1, (dispatch b t).2 + 1))
                ∧ ((s.comp i).hatches = 1 → ¬idle (headA b) → idle (headB b) →
                  let t := bound i .single (headB b) (washing (.single (headB b)))
                  dispatch b s = ((dispatch b t).1, (dispatch b t).2 + 1))
                ∧ ((s.comp i).hatches = 2 → idle (headA b) → idle (headB b) →
                  let t := bound i .partner (headB b) (bound i .lead (headA b) (washing (.pair b)))
                  dispatch b s = ((dispatch b t).1, (dispatch b t).2 + 2))
                ∧ ((s.comp i).hatches = 1 → ¬idle (headA b) → ¬idle (headB b) → dispatch b s = (s, 0))
                ∧ ((s.comp i).hatches = 2 → ¬idle (headA b) ∨ ¬idle (headB b) → dispatch b s = (s, 0)))
    ∧ ((∀ (r : Request) (s : State) (b : Bay), Asked s .requestDispatch r →
          (r.port = bayPort b ∧ r.payload = [])
            ∨ (r.port = officePort ∧ ∃ n : Byte, r.payload = [n] ∧ Names n b) →
            let x := dispatch b (s.taking .requestDispatch r)
            exec (.requestDispatch r) s = .next (x.1.answering .requestDispatch r ⟨.ok, [byte x.2]⟩))
        ∧ (∀ (r : Request) (s : State) (n : Byte), Asked s .requestDispatch r → r.port = officePort → r.payload = [n] →
            NamesNone 4 n → exec (.requestDispatch r) s = .next (s.answered .requestDispatch r .badArg []))
        ∧ (∀ (r : Request) (s : State), Asked s .requestDispatch r →
            ((∃ b : Bay, r.port = bayPort b) ∧ r.payload ≠ []) ∨ (r.port = officePort ∧ r.payload.length ≠ 1) →
              exec (.requestDispatch r) s = .next (s.answered .requestDispatch r .badArg []))
        ∧ ∀ (b : Bay) (s : State), s.resetPin = false →
            ((s.bay b).owed = 0 → exec (.dispatchAttempt b) s = .next s)
              ∧ ∀ k : Nat, (s.bay b).owed = k + 1 →
                  exec (.dispatchAttempt b) s = .next (dispatch b (s.setBay b { s.bay b with owed := k })).1)

/-- CANCEL_BINDING, and ABORT_RUN in BOUND, give a binding back: the record is QUEUED again at the front of its bay's queue with its plan
and rounds done kept, each channel is IDLE, a waiting claim is withdrawn, and no dispatch attempt is caused; a return for a record no
longer WASHING and bound there leaves records and queue. That an attempt caused before and not yet made stays owed is the model's choice
(log 17). A CANCEL_BINDING judged on a channel with no binding, or in a state other than BOUND and CLAIMING, is refused WRONG_STATE. -/
def Obligations.BindingIsGivenBack : Prop :=
  ∀ (r : Request) (s : State) (n : Byte) (named : Chan), r.payload = [n] → Names n named →
    foreignChannel r.port named = false → (s.chan named).state ≠ .unfitted →
      let c := leadOf s named
      let heads := headsOf s c
      (∀ x : ChannelBinding, (s.chan c).binding = some x →
          let returned (t : State) : State :=
            if washingOn (s.comp x.comp) c = true then
              (t.setComp x.comp { s.comp x.comp with state := .queued, binding := none }).setBay (bayOf c)
                { s.bay (bayOf c) with queue := x.comp :: (s.bay (bayOf c)).queue }
            else t
          let back (t : State) : State :=
            withdrawClaim c (modHeads heads (fun y => { y with state := .idle, binding := none, run := none }) (returned t))
          (Asked s .cancelBinding r → (s.chan c).state = .bound ∨ (s.chan c).state = .claiming →
              exec (.cancelBinding r) s
                = .next ((back (s.taking .cancelBinding r)).answering .cancelBinding r ⟨.ok, []⟩))
            ∧ (Asked s .abortRun r → (s.chan c).state = .bound →
                exec (.abortRun r) s = .next ((back (s.taking .abortRun r)).answering .abortRun r ⟨.ok, []⟩)))
        ∧ (Asked s .cancelBinding r →
            (s.chan c).binding = none ∨ ((s.chan c).state ≠ .bound ∧ (s.chan c).state ≠ .claiming) →
              exec (.cancelBinding r) s = .next (s.answered .cancelBinding r .wrongState []))

/-! ## Wash channels -/

/-- START_RUN: its checks in order on the lead, then a run context for the plan's slot with the record's rounds done, and the first step
begins. START_REHEARSAL: its checks in order, then the rehearsal slot and a run context, and the first step begins. -/
def Obligations.RunsStart : Prop :=
  (∀ (r : Request) (s : State) (n : Byte) (named : Chan), Asked s .startRun r → s.yardOpen = true → r.payload = [n] →
      Names n named → r.port = bayPort (bayOf named) → (s.chan named).state ≠ .unfitted →
        let c := leadOf s named
        let heads := headsOf s c
        let ready :=
          ∀ h ∈ heads, (s.chan h).state = .bound
            ∧ ((s.chan h).binding.map fun b => b.comp) = (s.chan c).binding.map fun b => b.comp
        (¬ready → exec (.startRun r) s = .next (s.answered .startRun r .wrongState []))
          ∧ (ready → (∃ h ∈ heads, (s.chan h).headIn = false) →
              exec (.startRun r) s = .next (s.answered .startRun r .notReady []))
          ∧ ∀ (b : ChannelBinding) (p : Plan) (x : Recipe), ready → (∀ h ∈ heads, (s.chan h).headIn = true) →
              (s.chan c).binding = some b → (s.comp b.comp).plan = some p → s.recipe p.slot = some x →
                let times : Nat := if isPair s c then 2 else 1
                let fits :=
                  ∀ st ∈ x.steps, times * (stepClaim st).hot ≤ s.plant.hotCapacity ∧ times * (stepClaim st).steam ≤ 1
                    ∧ times * (stepClaim st).doser ≤ 2
                (¬fits → exec (.startRun r) s = .next (s.answered .startRun r .unfit []))
                  ∧ (fits →
                      exec (.startRun r) s
                        = .next
                            ((beginStep c 1
                                ((s.taking .startRun r).setChan c
                                  { s.chan c with
                                    run :=
                                      some
                                        { slot := p.slot, step := 1, passCounter := 0, rounds := p.roundsDone,
                                          passTimer := 0, runningTime := 0 } })).answering
                              .startRun r ⟨.ok, []⟩)))
    ∧ (∀ (r : Request) (s : State) (n k : Byte) (c : Chan), Asked s .startRehearsal r → s.yardOpen = true → r.payload = [n, k] →
        Names n c → r.port = bayPort (bayOf c) → (s.chan c).state ≠ .unfitted →
          (NamesNone 15 k → exec (.startRehearsal r) s = .next (s.answered .startRehearsal r .badArg []))
            ∧ ∀ slot : RecipeSlot, Names k slot →
                ((s.chan c).state ≠ .idle → exec (.startRehearsal r) s = .next (s.answered .startRehearsal r .wrongState []))
                  ∧ ((s.chan c).state = .idle → s.recipe slot = none →
                    exec (.startRehearsal r) s = .next (s.answered .startRehearsal r .noSuch []))
                  ∧ ∀ x : Recipe, (s.chan c).state = .idle → s.recipe slot = some x →
                      let fits :=
                        ∀ st ∈ x.steps, (stepClaim st).hot ≤ s.plant.hotCapacity ∧ (stepClaim st).steam ≤ 1
                          ∧ (stepClaim st).doser ≤ 2
                      (¬fits → exec (.startRehearsal r) s = .next (s.answered .startRehearsal r .unfit []))
                        ∧ (fits →
                            exec (.startRehearsal r) s
                              = .next
                                  ((beginStep c 1
                                      ((s.taking .startRehearsal r).setChan c
                                        { s.chan c with
                                          rehearsal := some slot
                                          run :=
                                            some
                                              { slot := slot, step := 1, passCounter := 0, rounds := 0, passTimer := 0,
                                                runningTime := 0 } })).answering
                                    .startRehearsal r ⟨.ok, []⟩)))

/-- A step's claim: its hot units with supply HOT, one STEAM with supply STEAM, one DOSER with dose yes, and nothing otherwise. A channel,
or both heads of its pair, begin a step: in CLAIMING with the step's pass counter; an empty claim enters RUNNING at once, a claim above a
capacity faults CLAIM_UNFIT, any other is lodged with no skips and makes an arbitration pass. An empty claim with the discharge permit
deasserted enters RUNNING and is judged. That the head that lodged the claim faults CLAIM_UNFIT and the other head of a pair PARTNER_FAULT
is log 16. A lone claim that fits the free units is granted in the pass of its lodging and its channel or pair enters RUNNING; one that
does not fit waits with no skip and no anchor. An event of the arbiter: the plant is as the pass leaves it; each channel that the pass
grants and that is in CLAIMING enters RUNNING, in the order of the grants, and is judged where the discharge permit is deasserted; a
channel that faults there releases its grant after the pass, the releases taken in their order (log 15). With the permit asserted nothing
is judged or released. -/
def Obligations.StepBegins : Prop :=
  (∀ x : RecipeStep,
      (stepClaim x).hot = (match x.supply with
        | .hot => x.hotUnits
        | .none | .cold | .steam => 0)
        ∧ (stepClaim x).steam = (match x.supply with
          | .steam => 1
          | .none | .cold | .hot => 0)
        ∧ (stepClaim x).doser = (if x.dose = true then 1 else 0)
        ∧ (stepClaim x = ⟨0, 0, 0⟩ ↔
            x.dose = false ∧ x.supply ≠ .steam ∧ (x.supply = .hot → x.hotUnits = 0)))
    ∧ (∀ (c : Chan) (n : Nat) (s : State) (r : RunContext) (x : Recipe) (st : RecipeStep),
        leadOf s c = c → (s.chan c).run = some r → s.recipe r.slot = some x → 1 ≤ n → x.steps[n - 1]? = some st →
          let times : Nat := if isPair s c then 2 else 1
          let claim : Units :=
            ⟨times * (stepClaim st).hot, times * (stepClaim st).steam, times * (stepClaim st).doser⟩
          let kind : ClaimKind := if (s.chan c).rehearsal = none then .run else .rehearsal
          let t :=
            modHeads (headsOf s c) (fun y => { y with state := .claiming })
              (s.setChan c { s.chan c with run := some { r with step := n, passCounter := st.extraPasses } })
          (claim = ⟨0, 0, 0⟩ → s.permit = false →
              beginStep c n s = takeReleases 9 (judgeNoPermit c (t.entered c)).2 (judgeNoPermit c (t.entered c)).1)
            ∧ (claim = ⟨0, 0, 0⟩ → s.permit = true →
              beginStep c n s
                = modHeads (headsOf s c) (fun y => { y with state := .running, meter := 0, headDone := false })
                    (s.setChan c
                      { s.chan c with
                        run :=
                          some { r with step := n, passCounter := st.extraPasses, passTimer := 0, runningTime := 0 } }))
            ∧ (s.plant.hotCapacity < claim.hot ∨ 1 < claim.steam ∨ 2 < claim.doser →
                beginStep c n s
                  = stopHeads
                      (if isPair s c then [(c, .claimUnfit), (otherHead c, .partnerFault)] else [(c, .claimUnfit)]) t)
            ∧ (claim ≠ ⟨0, 0, 0⟩ → claim.hot ≤ s.plant.hotCapacity → claim.steam ≤ 1 → claim.doser ≤ 2 →
                beginStep c n s
                  = arbitrate
                      { t with
                        plant :=
                          { s.plant with
                            claims :=
                              s.plant.claims.set c.val
                                (some { kind := kind, units := claim, skips := 0, anchored := false, pair := isPair s c })
                                c.isLt } }))
    ∧ (∀ (c : Chan) (s : State) (k : Claim) (r : RunContext), PriorityComplete s → leadOf s c = c → (s.chan c).run = some r →
        s.plant.claims[c] = some k → (∀ d : Chan, d ≠ c → s.plant.claims[d] = none) → k.anchored = false →
        k.skips < s.setting .skipLimit → (∀ h ∈ headsOf s c, (s.chan h).state = .claiming) →
          (k.units.fits s.plant.free = true → s.permit = true →
              arbitrate s
                = { modHeads (headsOf s c) (fun y => { y with state := .running, meter := 0, headDone := false })
                      (s.setChan c { s.chan c with run := some { r with passTimer := 0, runningTime := 0 } }) with
                    plant :=
                      { s.plant with
                        claims := s.plant.claims.set c.val none c.isLt
                        grants :=
                          s.plant.grants.set c.val (some { kind := k.kind, units := k.units, pair := k.pair }) c.isLt
                        priority :=
                          match s.plant.scheme with
                          | .fixed => s.plant.priority
                          | .rotating =>
                            if k.pair then
                              (s.plant.priority.filter fun d => decide (d ≠ headA (bayOf c) ∧ d ≠ headB (bayOf c)))
                                ++ [headA (bayOf c), headB (bayOf c)]
                            else (s.plant.priority.filter fun d => decide (d ≠ c)) ++ [c] } })
            ∧ (k.units.fits s.plant.free = false → arbitrate s = s))
    ∧ (∀ s : State,
        let x := s.plant.pass (s.setting .skipLimit)
        arbitrate s = takeReleases 8 s.handed.2 s.handed.1
          ∧ s.handed.1.plant = x.1
          ∧ (s.permit = true →
              s.handed.2 = [] ∧ (arbitrate s).plant = x.1
                ∧ arbitrate s
                    = x.2.foldl (fun t c => if (t.chan c).state = .claiming then t.entered c else t) (s.setPlant x.1)))

/-- The stops of a run: ABORT_RUN in CLAIMING, RUNNING or PAUSED; a guard that runs out before the amount is counted; the pause limit; a
wash head lifted in RUNNING or PAUSED. The heads enter STOPPING with their reasons, the faulting head first, and the plant is given back.
The reasons of the two heads of a pair are those of log 16, and an expiry that is not due changes nothing (log 9). -/
def Obligations.RunsStop : Prop :=
  ∀ (named : Chan) (s : State), s.resetPin = false →
    let c := leadOf s named
    let heads := headsOf s c
    let live := (s.chan c).state = .claiming ∨ (s.chan c).state = .running ∨ (s.chan c).state = .paused
    (∀ (r : Request) (n : Byte), Asked s .abortRun r → r.payload = [n] → Names n named →
        r.port = bayPort (bayOf named) → (s.chan named).state ≠ .unfitted →
        (live →
            exec (.abortRun r) s
              = .next
                  ((giveBack c (stopHeads (heads.map fun h => (h, .abortedByBay)) (s.taking .abortRun r))).answering
                    .abortRun r ⟨.ok, []⟩))
          ∧ ((s.chan c).state = .idle ∨ (s.chan c).state = .stopping ∨ (s.chan c).state = .fault
                ∨ (s.chan c).state = .service →
            exec (.abortRun r) s = .next (s.answered .abortRun r .wrongState [])))
      ∧ (∀ (r : RunContext) (st : RecipeStep), runOf s c = some r → stepOf s c = some st →
          exec (.guardExpiry named) s
            = .next
                (if (s.chan c).state = .running ∧ st.mode = .metered ∧ (s.chan c).rehearsal = none
                    ∧ st.guard ≤ r.passTimer then
                   giveBack c
                     (stopHeads
                       ((heads.filter fun h => !(s.chan h).headDone).map (fun h => (h, .flowShort))
                         ++ (heads.filter fun h => (s.chan h).headDone).map fun h => (h, .partnerFault))
                       s)
                 else s))
      ∧ exec (.pauseLimitExpiry named) s
          = .next
              (if (s.chan c).state = .paused ∧ (s.chan c).pauseDue = true then
                 giveBack c (stopHeads (heads.map fun h => (h, .dischargeBlocked)) s)
               else s)
      ∧ ((s.chan named).rehearsal = none → (s.chan named).state = .running ∨ (s.chan named).state = .paused →
          exec (.headInDrop named) s
            = .next
                (giveBack c
                  (stopHeads
                    (if isPair s named then [(named, .headLifted), (otherHead named, .partnerFault)]
                     else [(named, .headLifted)])
                    (s.setChan named { s.chan named with headIn := false }))))

/-- One head enters STOPPING: a WASHING record bound to it is HELD with the reason, binding and run context go, the drain-down timer
starts, and CHANNEL_FAULT, or RUN_DONE for an abort, is raised. A drain-down time of 0 ends STOPPING in the same event, in FAULT or, after
an abort, in IDLE with a dispatch attempt caused. That the pause timer reads 0 outside PAUSED and the drain-down timer starts here is log
18. A channel gives its plant back: a grant is released or a waiting claim withdrawn, each with one pass; a channel that holds neither
changes nothing. Where no other claim waits the pass grants nothing. Releases that reach the arbiter together are taken one after the
other, each with its pass, and those that a pass brings about join the end (log 15). -/
def Obligations.HeadsStop : Prop :=
  (∀ (c : Chan) (why : Reason) (s : State),
      let x := s.chan c
      let held : State :=
        match x.binding with
        | none => s
        | some b =>
          if washingOn (s.comp b.comp) c = true then
            raiseNotice officePort 1 (b.comp.val + 1)
              (s.setComp b.comp
                { s.comp b.comp with
                  state := .held, binding := none, cert := none
                  hold := some (if why = .abortedByBay then .washAborted else .washFault why) })
          else s
      let stopping : WashChannel :=
        { x with
          state := .stopping, binding := none, run := none, pauseTimer := 0, pauseDue := false, drainTimer := 0
          drainTime := s.setting .drainDownTime, reason := some why }
      let t :=
        raiseNotice (bayPort (bayOf c)) (if why = .abortedByBay then 2 else 1) (headNumber c) (held.setChan c stopping)
      (s.setting .drainDownTime ≠ 0 → stopHeads [(c, why)] s = t)
        ∧ (s.setting .drainDownTime = 0 → why ≠ .abortedByBay →
            stopHeads [(c, why)] s = t.setChan c { stopping with state := .fault, rehearsal := none })
        ∧ (s.setting .drainDownTime = 0 → why = .abortedByBay →
            stopHeads [(c, why)] s
              = (t.setChan c { stopping with state := .idle, rehearsal := none, reason := none }).setBay (bayOf c)
                  { s.bay (bayOf c) with owed := (s.bay (bayOf c)).owed + 1 })
        ∧ ∀ (rest : List (Chan × Reason)), stopHeads ((c, why) :: rest) s = stopHeads rest (stopHeads [(c, why)] s))
    ∧ (∀ (c : Chan) (s : State),
        let released : State := { s with plant := { s.plant with grants := s.plant.grants.set c.val none c.isLt } }
        (s.plant.grants[c] ≠ none →
            giveBack c s = arbitrate released ∧ releaseGrant c s = arbitrate released ∧ takeReleases 9 [c] s = arbitrate released)
          ∧ (s.plant.grants[c] = none → giveBack c s = withdrawClaim c s ∧ releaseGrant c s = s ∧ takeReleases 9 [c] s = s)
          ∧ (s.plant.claims[c] ≠ none →
              withdrawClaim c s
                = arbitrate { s with plant := { s.plant with claims := s.plant.claims.set c.val none c.isLt } })
          ∧ (s.plant.claims[c] = none → withdrawClaim c s = s)
          ∧ (s.plant.grants[c] = none → s.plant.claims[c] = none → giveBack c s = s)
          ∧ (s.plant.grants[c] = none → s.plant.claims[c] ≠ none →
              giveBack c s
                = arbitrate { s with plant := { s.plant with claims := s.plant.claims.set c.val none c.isLt } })
          ∧ (s.plant.claims[c] = none ∨ s.plant.grants[c] = none → (∀ d : Chan, d ≠ c → s.plant.claims[d] = none) →
              giveBack c s
                = { s with
                    plant :=
                      { s.plant with
                        claims := s.plant.claims.set c.val none c.isLt, grants := s.plant.grants.set c.val none c.isLt } })
          ∧ ∀ (n : Nat) (rest : List Chan),
              takeReleases n [] s = s
                ∧ (s.plant.grants[c] = none → takeReleases (n + 1) (c :: rest) s = takeReleases n rest s)
                ∧ (s.plant.grants[c] ≠ none →
                    takeReleases (n + 1) (c :: rest) s = takeReleases n (rest ++ released.handed.2) released.handed.1))

/-- The ends of passes: PASS_TIMER_EXPIRY in a TIMED pass, and in a METERED pass of a rehearsal; RUNNING_TIME_EXPIRY in a DEMAND pass;
each once its timer has reached the amount, and with no effect otherwise. That an expiry acts once its timer has reached the amount, and
changes nothing otherwise, is log 9. FLOW_METER_PULSE counts a litre while RUNNING in a METERED step. In a real run the amount ends the
pass of a single head; in a pair it sets head done, and the pass ends when the other head has it too. -/
def Obligations.PassesEnd : Prop :=
  (∀ (named : Chan) (s : State) (r : RunContext) (st : RecipeStep), s.resetPin = false →
      let c := leadOf s named
      runOf s c = some r → stepOf s c = some st →
        exec (.passTimerExpiry named) s
            = .next
                (if (s.chan c).state = .running ∧ st.amount ≤ r.passTimer
                    ∧ (st.mode = .timed ∨ (st.mode = .metered ∧ (s.chan c).rehearsal ≠ none)) then endPass c s
                 else s)
          ∧ exec (.runningTimeExpiry named) s
              = .next
                  (if (s.chan c).state = .running ∧ st.amount ≤ r.runningTime ∧ st.mode = .demand then endPass c s else s))
    ∧ (∀ (c : Chan) (s : State), s.resetPin = false →
        let n := if (s.chan c).meter < 65535 then (s.chan c).meter + 1 else (s.chan c).meter
        let t := s.setChan c { s.chan c with meter := n }
        let done := s.setChan c { s.chan c with meter := n, headDone := true }
        (stepOf s c = none → exec (.flowMeterPulse c) s = .next s)
          ∧ ∀ st : RecipeStep, stepOf s c = some st →
              ((s.chan c).state ≠ .running ∨ st.mode ≠ .metered → exec (.flowMeterPulse c) s = .next s)
                ∧ ((s.chan c).state = .running → st.mode = .metered →
                    ((s.chan c).rehearsal ≠ none ∨ n < st.amount → exec (.flowMeterPulse c) s = .next t)
                      ∧ ((s.chan c).rehearsal = none → st.amount ≤ n → isPair s c = false →
                          exec (.flowMeterPulse c) s = .next (endPass c t))
                      ∧ ((s.chan c).rehearsal = none → st.amount ≤ n → isPair s c = true → (s.chan c).headDone = false →
                          (s.chan (otherHead c)).headDone = true →
                            exec (.flowMeterPulse c) s = .next (endPass (leadOf s c) done))
                      ∧ ((s.chan c).rehearsal = none → st.amount ≤ n → isPair s c = true →
                          (s.chan c).headDone = true ∨ (s.chan (otherHead c)).headDone = false →
                            exec (.flowMeterPulse c) s = .next done)))

/-- At the end of a pass a counter above 0 is decremented and the next pass begins with its timers, meter counts and head done cleared; at
0 the step ends: the lines close, the grant is released with its pass, and the next step begins or the round ends. At the end of a round
the rounds counter rises; below the recipe's round count it is reported to the record and step 1 begins again, and at the round count the
run is complete. A run is complete: the record loses binding and plan and goes to INSPECT_WAIT, or is cleared with a certificate where its
class needs no inspection; each head enters IDLE with RUN_DONE raised and a dispatch attempt caused. A rehearsal reports nothing to the
record. -/
def Obligations.StepsRoundsAndRunsEnd : Prop :=
  (∀ (c : Chan) (s : State) (r : RunContext), leadOf s c = c → (s.chan c).run = some r →
      (∀ n : Nat, r.passCounter = n + 1 →
          endPass c s
            = (modHeads (headsOf s c) (fun y => { y with meter := 0, headDone := false }) s).modChan c fun y =>
                { y with run := some { r with passCounter := n, passTimer := 0, runningTime := 0 } })
        ∧ (r.passCounter = 0 →
            let t := releaseGrant c (modHeads (headsOf s c) (fun y => { y with state := .claiming }) s)
            ∀ (r' : RunContext) (x : Recipe), runOf t c = some r' → recipeOf t c = some x →
              endPass c s = if r'.step < x.steps.length then beginStep c (r'.step + 1) t else endRound c t))
    ∧ (∀ (c : Chan) (s : State) (r : RunContext) (x : Recipe), leadOf s c = c → (s.chan c).run = some r →
        s.recipe r.slot = some x →
          let t := s.setChan c { s.chan c with run := some { r with rounds := r.rounds + 1 } }
          (x.rounds ≤ r.rounds + 1 → endRound c s = completeRun c t)
            ∧ (r.rounds + 1 < x.rounds → (s.chan c).binding = none → endRound c s = beginStep c 1 t)
            ∧ ∀ b : ChannelBinding, r.rounds + 1 < x.rounds → (s.chan c).binding = some b →
                washingOn (s.comp b.comp) c = true →
                  endRound c s
                    = beginStep c 1
                        (t.setComp b.comp
                          { s.comp b.comp with
                            plan := (s.comp b.comp).plan.map fun p => { p with roundsDone := r.rounds + 1 } }))
    ∧ (∀ (c : Chan) (s : State), leadOf s c = c →
        let rest (t : State) (h : Chan) : State :=
          raiseNotice (bayPort (bayOf h)) 2 (headNumber h)
            ((t.setChan h
                { t.chan h with state := .idle, binding := none, rehearsal := none, run := none, reason := none }).setBay
              (bayOf h) { t.bay (bayOf h) with owed := (t.bay (bayOf h)).owed + 1 })
        ((s.chan c).binding = none → completeRun c s = rest s c)
          ∧ ∀ (b : ChannelBinding) (k : CargoClass), (s.chan c).binding = some b → washingOn (s.comp b.comp) c = true →
              (s.comp b.comp).nextClass = some k →
                let waiting :=
                  s.setComp b.comp { s.comp b.comp with state := .inspectWait, binding := none, plan := none }
                let reported :=
                  if (limitEntry s (some k)).inspectionRequired = true then waiting else issueCertificate b.comp waiting
                (b.role = .single → completeRun c s = rest reported c)
                  ∧ (b.role = .lead →
                      completeRun c s = rest (rest reported (headA (bayOf c))) (headB (bayOf c))))

/-- Without the discharge permit a channel that enters RUNNING, or is in it at the drop, pauses in a DEMAND step, faults DISCHARGE_LOST in
a draining TIMED or METERED step of a real run, each head of a pair with that reason (log 16), and runs on otherwise. A channel that
enters RUNNING with the discharge permit deasserted is judged at that moment, whether on an empty claim or on its grant: it pauses, faults
or runs on, and a fault releases the grant after the pass that gave it (log 15). DISCHARGE_PERMIT_DROP reaches the channels and pairs in
RUNNING one after the other, each judged once under its lead, a faulted one releasing its grant with a pass (logs 14 and 15); the level is
down for every other. A channel whose pass end came together with the drop and was taken first goes on unjudged in the pass it has begun,
in its step's second pass or a later one, with nothing counted yet; the operand names those channels (log 30). DISCHARGE_PERMIT_RETURN
puts every PAUSED channel back in RUNNING with its running time as it stood and its pause timer cleared, and changes no other channel.
HEAD_IN falling in a real run's CLAIMING withdraws the claim and forgets the run, the heads BOUND again with their binding; in a rehearsal
and in the states that do not look at it, and rising, only the level changes. An input command that names the level which the input has
acts by the state alone (log 28). -/
def Obligations.PermitAndHeadIn : Prop :=
  (∀ (c : Chan) (s : State) (st : RecipeStep), stepOf s c = some st →
      (st.mode = .demand →
          judgeNoPermit c s
            = (modHeads (headsOf s c) (fun y => { y with state := .paused, pauseTimer := 0, pauseDue := false }) s, []))
        ∧ (st.mode ≠ .demand → st.drain = true → (s.chan c).rehearsal = none →
            judgeNoPermit c s = (stopHeads ((headsOf s c).map fun h => (h, .dischargeLost)) s, [c]))
        ∧ (st.mode ≠ .demand → st.drain = false ∨ (s.chan c).rehearsal ≠ none → judgeNoPermit c s = (s, [])))
    ∧ ((∀ (c : Chan) (n : Nat) (s : State) (r : RunContext) (x : Recipe) (st : RecipeStep), s.permit = false →
          leadOf s c = c → (s.chan c).run = some r → s.recipe r.slot = some x → 1 ≤ n → x.steps[n - 1]? = some st →
          stepClaim st = ⟨0, 0, 0⟩ →
            let t :=
              modHeads (headsOf s c) (fun y => { y with state := .running, meter := 0, headDone := false })
                (s.setChan c
                  { s.chan c with
                    run := some { r with step := n, passCounter := st.extraPasses, passTimer := 0, runningTime := 0 } })
            beginStep c n s = takeReleases 9 (judgeNoPermit c t).2 (judgeNoPermit c t).1)
        ∧ ∀ (c : Chan) (s : State) (r : RunContext), s.permit = false → leadOf s c = c → (s.chan c).run = some r →
            (s.chan c).state = .claiming → (s.plant.pass (s.setting .skipLimit)).2 = [c] →
              let t :=
                modHeads (headsOf s c) (fun y => { y with state := .running, meter := 0, headDone := false })
                  ({ s with plant := (s.plant.pass (s.setting .skipLimit)).1 }.setChan c
                    { s.chan c with run := some { r with passTimer := 0, runningTime := 0 } })
              arbitrate s = takeReleases 8 (judgeNoPermit c t).2 (judgeNoPermit c t).1)
    ∧ (∀ (order met : List Chan) (s : State), s.resetPin = false →
        let begun (t : State) (c : Chan) : Bool :=
          (runOf t c).any fun r => (stepOf t c).any fun st =>
            decide (r.passCounter < st.extraPasses ∧ r.passTimer = 0 ∧ r.runningTime = 0)
              && (headsOf t c).all fun h => decide ((t.chan h).meter = 0)
        let unjudged (t : State) (c : Chan) : Bool := met.any (fun d => decide (leadOf t d = c)) && begun t c
        let drop (t : State) (c : Chan) : State :=
          if (t.chan c).state = .running ∧ leadOf t c = c ∧ unjudged t c = false then
            takeReleases 9 (judgeNoPermit c t).2 (judgeNoPermit c t).1
          else t
        exec (.dischargePermitDrop ⟨order, met⟩) s
            = .next
                ((order ++ (List.finRange 8).filter fun c => decide (c ∉ order)).foldl drop { s with permit := false })
          ∧ ((∀ c : Chan, (s.chan c).state ≠ .running ∨ leadOf s c ≠ c ∨ unjudged s c = true) →
              exec (.dischargePermitDrop ⟨order, met⟩) s = .next { s with permit := false }))
    ∧ (∀ s : State, s.resetPin = false →
        ∃ t : State,
          exec .dischargePermitReturn s = .next t
            ∧ t = { s with permit := true, channels := t.channels }
            ∧ ∀ c : Chan,
                t.chan c
                  = if (s.chan c).state = .paused then
                      { s.chan c with state := .running, pauseTimer := 0, pauseDue := false }
                    else s.chan c)
    ∧ (∀ (c : Chan) (s : State), s.resetPin = false →
        exec (.headInRise c) s = .next (s.setChan c { s.chan c with headIn := true })
          ∧ ((s.chan c).rehearsal ≠ none ∨ (s.chan c).state = .unfitted ∨ (s.chan c).state = .idle ∨ (s.chan c).state = .bound
                ∨ (s.chan c).state = .stopping ∨ (s.chan c).state = .fault ∨ (s.chan c).state = .service →
              exec (.headInDrop c) s = .next (s.setChan c { s.chan c with headIn := false }))
          ∧ ((s.chan c).rehearsal = none → (s.chan c).state = .claiming →
              exec (.headInDrop c) s
                = .next
                    (withdrawClaim (leadOf s c)
                      (modHeads (headsOf s (leadOf s c)) (fun y => { y with state := .bound, run := none })
                        (s.setChan c { s.chan c with headIn := false })))))

/-- STOPPING ends when the drain-down timer has reached the drain-down time: IDLE after an abort, with a dispatch attempt caused, else
FAULT with the reason kept. CLEAR_FAULT takes a channel in FAULT to IDLE the same way; any other state is refused WRONG_STATE. That the
expiry changes nothing outside its time is log 9, and that the drain-down timer reads 0 after STOPPING is log 18. -/
def Obligations.DrainDownAndClearFault : Prop :=
  ∀ (c : Chan) (s : State), s.resetPin = false →
    let attempt (t : State) : State :=
      t.setBay (bayOf c) { s.bay (bayOf c) with owed := (s.bay (bayOf c)).owed + 1 }
    let x := s.chan c
    (x.state = .stopping → x.drainTime ≤ x.drainTimer → x.reason = some .abortedByBay →
        exec (.drainDownExpiry c) s
          = .next
              (attempt (s.setChan c { x with state := .idle, rehearsal := none, drainTimer := 0, reason := none })))
      ∧ (x.state = .stopping → x.drainTime ≤ x.drainTimer → x.reason ≠ some .abortedByBay →
          exec (.drainDownExpiry c) s
            = .next (s.setChan c { x with state := .fault, rehearsal := none, drainTimer := 0 }))
      ∧ (x.state ≠ .stopping ∨ x.drainTimer < x.drainTime → exec (.drainDownExpiry c) s = .next s)
      ∧ ∀ (r : Request) (n : Byte), Asked s .clearFault r → r.payload = [n] → Names n c →
          r.port = officePort ∨ r.port = bayPort (bayOf c) → x.state ≠ .unfitted →
            (x.state = .fault →
                exec (.clearFault r) s
                  = .next (attempt ((s.answered .clearFault r .ok []).setChan c { x with state := .idle, reason := none })))
              ∧ (x.state ≠ .fault → exec (.clearFault r) s = .next (s.answered .clearFault r .wrongState []))

/-- Service mode: SERVICE_ENTER from IDLE, SERVICE_LATCH in every state, SERVICE_RELEASE and SERVICE_EXIT in SERVICE, each refused
WRONG_STATE elsewhere. That a line's byte in SERVICE_LATCH other than 1 and 0 is refused BAD_ARG is the model's reading of R190 (log 20).
SERVICE_CLAIM: the checks in order, then the claim is lodged, with its pass. -/
def Obligations.Service : Prop :=
  (∀ (r : Request) (s : State) (n : Byte) (c : Chan), Names n c →
      r.port = officePort ∨ r.port = bayPort (bayOf c) → (s.chan c).state ≠ .unfitted →
        (Asked s .serviceEnter r → r.payload = [n] →
            exec (.serviceEnter r) s
              = .next
                  (if (s.chan c).state = .idle then
                     (s.answered .serviceEnter r .ok []).setChan c { s.chan c with state := .service }
                   else s.answered .serviceEnter r .wrongState []))
          ∧ (∀ l : Lines, Asked s .serviceLatch r →
              r.payload = [n, flag l.cold, flag l.hot, flag l.steam, flag l.dose, flag l.drain] →
                exec (.serviceLatch r) s
                  = .next ((s.answered .serviceLatch r .ok []).setChan c { s.chan c with latch := l }))
          ∧ (∀ lines : List Byte, Asked s .serviceLatch r → r.payload = n :: lines → lines.length = 5 →
              (∃ b ∈ lines, 1 < b.toNat) → exec (.serviceLatch r) s = .next (s.answered .serviceLatch r .badArg []))
          ∧ (Asked s .serviceRelease r → r.payload = [n] →
              exec (.serviceRelease r) s
                = .next
                    (if (s.chan c).state = .service then
                       (giveBack c (s.taking .serviceRelease r)).answering .serviceRelease r ⟨.ok, []⟩
                     else s.answered .serviceRelease r .wrongState []))
          ∧ (Asked s .serviceExit r → r.payload = [n] →
              exec (.serviceExit r) s
                = .next
                    (if (s.chan c).state = .service then
                       (giveBack c
                         (((s.taking .serviceExit r).setChan c { s.chan c with state := .idle, reason := none }).setBay
                           (bayOf c) { s.bay (bayOf c) with owed := (s.bay (bayOf c)).owed + 1 })).answering
                         .serviceExit r ⟨.ok, []⟩
                     else s.answered .serviceExit r .wrongState [])))
    ∧ (∀ (r : Request) (s : State) (n h t d : Byte) (c : Chan), Asked s .serviceClaim r → r.payload = [n, h, t, d] → Names n c →
        r.port = officePort ∨ r.port = bayPort (bayOf c) → (s.chan c).state ≠ .unfitted →
          let ranged := h.toNat ≤ 8 ∧ t.toNat ≤ 1 ∧ d.toNat ≤ 2 ∧ ¬(h.toNat = 0 ∧ t.toNat = 0 ∧ d.toNat = 0)
          let holds := s.plant.claims[c] ≠ none ∨ s.plant.grants[c] ≠ none
          let u := s.taking .serviceClaim r
          (¬ranged → exec (.serviceClaim r) s = .next (s.answered .serviceClaim r .badArg []))
            ∧ (ranged → (s.chan c).state ≠ .service →
                exec (.serviceClaim r) s = .next (s.answered .serviceClaim r .wrongState []))
            ∧ (ranged → (s.chan c).state = .service → holds →
                exec (.serviceClaim r) s = .next (s.answered .serviceClaim r .busy []))
            ∧ (ranged → (s.chan c).state = .service → ¬holds → s.plant.hotCapacity < h.toNat →
                exec (.serviceClaim r) s = .next (s.answered .serviceClaim r .unfit []))
            ∧ (ranged → (s.chan c).state = .service → ¬holds → h.toNat ≤ s.plant.hotCapacity →
                exec (.serviceClaim r) s
                  = .next
                      ((arbitrate
                          { u with
                            plant :=
                              { s.plant with
                                claims :=
                                  s.plant.claims.set c.val
                                    (some
                                      { kind := .service, units := ⟨h.toNat, t.toNat, d.toNat⟩, skips := 0,
                                        anchored := false, pair := isPair s c })
                                    c.isLt } }).answering
                        .serviceClaim r ⟨.ok, []⟩)))

/-- The valve lines of a channel in each of its states. -/
def Obligations.ValveLines : Prop :=
  ∀ (c : Chan) (s : State), s.resetPin = false →
    let x := s.chan c
    let closed : Lines := ⟨false, false, false, false, false⟩
    let grant := s.plant.grantUnits c
    (x.state = .unfitted ∨ x.state = .idle ∨ x.state = .bound ∨ x.state = .claiming ∨ x.state = .paused ∨ x.state = .fault →
        valveLines s c = closed)
      ∧ (x.rehearsal ≠ none → x.state = .running ∨ x.state = .stopping → valveLines s c = closed)
      ∧ (x.rehearsal = none → x.state = .stopping → valveLines s c = { closed with drain := s.permit })
      ∧ (x.state = .service →
          valveLines s c
            = { cold := x.latch.cold, hot := x.latch.hot && decide (grant.hot ≠ 0)
                steam := x.latch.steam && decide (grant.steam ≠ 0), dose := x.latch.dose && decide (grant.doser ≠ 0)
                drain := x.latch.drain })
      ∧ ∀ st : RecipeStep, x.state = .running → x.rehearsal = none → stepOf s c = some st →
          let waits := isPair s c = true ∧ st.mode = .metered ∧ x.headDone = true
          valveLines s c
            = { cold := decide (st.supply = .cold ∧ ¬waits), hot := decide (st.supply = .hot ∧ ¬waits)
                steam := decide (st.supply = .steam ∧ ¬waits), dose := decide (st.dose = true ∧ ¬waits)
                drain := st.drain }

/-! ## Plant arbiter -/

/-- SET_TOKEN_ALLOWANCE sets a channel's allowance and its remaining tokens to it and makes no pass; SET_PRIORITY_SCHEME changes nothing
for the present scheme and puts the order back to 1..8 for the other. SET_HOT_CAPACITY: the checks in order; then the capacity, the drops
of the waiting claims above it in the pass order as it stood, each channel in CLAIMING faulting CLAIM_UNFIT and each in SERVICE staying,
and one pass. The answer counts the drops. The other head of a pair whose claim is dropped takes PARTNER_FAULT (log 16). REFRESH, when the
last second tick found the refresh timer at its period: every channel's remaining tokens are set to its allowance, the timer restarts, and
a pass is made; where no claim waits the pass grants nothing. That REFRESH has no effect while none is due is log 9. -/
def Obligations.ArbiterSettings : Prop :=
  ((∀ (r : Request) (s : State) (n a b : Byte), Asked s .setTokenAllowance r → r.payload = [n, a, b] →
        (NamesNone 8 n → exec (.setTokenAllowance r) s = .next (s.answered .setTokenAllowance r .badArg []))
          ∧ ∀ c : Chan, Names n c →
              ((s.chan c).state = .unfitted →
                  exec (.setTokenAllowance r) s = .next (s.answered .setTokenAllowance r .unfit []))
                ∧ ((s.chan c).state ≠ .unfitted →
                    let v := a.toNat + 256 * b.toNat
                    exec (.setTokenAllowance r) s
                      = .next
                          { s.answered .setTokenAllowance r .ok [] with
                            plant :=
                              { s.plant with
                                tokens := s.plant.tokens.set c.val { allowance := v, remaining := v } c.isLt } }))
      ∧ ∀ (r : Request) (s : State) (n : Byte), Asked s .setPriorityScheme r → r.payload = [n] →
          (n ≠ 1 → n ≠ 2 → exec (.setPriorityScheme r) s = .next (s.answered .setPriorityScheme r .badArg []))
            ∧ ∀ x : Scheme, n = byte x.code →
                (x = s.plant.scheme → exec (.setPriorityScheme r) s = .next (s.answered .setPriorityScheme r .ok []))
                  ∧ (x ≠ s.plant.scheme →
                      exec (.setPriorityScheme r) s
                        = .next
                            { s.answered .setPriorityScheme r .ok [] with
                              plant := { s.plant with scheme := x, priority := [0, 1, 2, 3, 4, 5, 6, 7] } }))
    ∧ (∀ (r : Request) (s : State) (n : Byte), Asked s .setHotCapacity r → r.payload = [n] →
        (n.toNat = 0 ∨ 8 < n.toNat → exec (.setHotCapacity r) s = .next (s.answered .setHotCapacity r .badArg []))
          ∧ (1 ≤ n.toNat → n.toNat ≤ 8 → n.toNat < s.plant.granted.hot →
              exec (.setHotCapacity r) s = .next (s.answered .setHotCapacity r .inUse []))
          ∧ (1 ≤ n.toNat → n.toNat ≤ 8 → s.plant.granted.hot ≤ n.toNat →
              let dropped := s.plant.passOrder.filter fun c => decide (n.toNat < (s.plant.claimUnits c).hot)
              let drop (t : State) (c : Chan) : State :=
                let u : State := { t with plant := { t.plant with claims := t.plant.claims.set c.val none c.isLt } }
                if (t.chan c).state = .claiming then
                  stopHeads
                    (if isPair t c then [(c, .claimUnfit), (otherHead c, .partnerFault)] else [(c, .claimUnfit)]) u
                else u
              let u := s.taking .setHotCapacity r
              exec (.setHotCapacity r) s
                  = .next
                      ((arbitrate (dropped.foldl drop { u with plant := { s.plant with hotCapacity := n.toNat } })).answering
                        .setHotCapacity r ⟨.ok, [byte dropped.length]⟩)
                ∧ (NoneWaiting s →
                    exec (.setHotCapacity r) s
                      = .next
                          { s.answered .setHotCapacity r .ok [0] with
                            plant := { s.plant with hotCapacity := n.toNat } })))
    ∧ (∀ s : State, s.resetPin = false →
        let tokens : Vector Tokens 8 :=
          Vector.ofFn fun c : Chan =>
            { allowance := (s.plant.tokens[c]).allowance, remaining := (s.plant.tokens[c]).allowance }
        let t : State := { s with plant := { s.plant with tokens := tokens, refreshTimer := 0, refreshDue := false } }
        (s.plant.refreshDue = false → exec .refresh s = .next s)
          ∧ (s.plant.refreshDue = true → exec .refresh s = .next (arbitrate t))
          ∧ (s.plant.refreshDue = true → NoneWaiting s → exec .refresh s = .next t))

/-- The pass order: the waiting claims whose channel is in standing before those whose channel is exhausted, each group in priority order.
A channel is exhausted while its allowance is not 0 and its remaining tokens are 0. What a pass grants: the anchored claim is considered
first and granted when its units are free; every other waiting claim in the pass order is granted when its units are free after the grants
before it and, while the anchored claim still waits, it asks for no resource that the anchored claim asks for. -/
def Obligations.PassGrantsWholeClaims : Prop :=
  (∀ p : Plant,
      (∀ c : Chan, p.exhausted c = true ↔ (p.tokens[c]).allowance ≠ 0 ∧ (p.tokens[c]).remaining = 0)
        ∧ p.passOrder
            = (p.priority.filter fun c => (p.claims[c]).isSome && !p.exhausted c)
                ++ p.priority.filter fun c => (p.claims[c]).isSome && p.exhausted c)
    ∧ (∀ p : Plant, p.priority.Nodup →
        let sum (l : List Chan) : Units := l.foldl (fun u c => u.add (p.claimUnits c)) Units.zero
        let granted := p.passGrants
        ((∀ c ∈ p.passOrder, p.isAnchored c = false) →
            ∀ (c : Chan) (front back : List Chan), p.passOrder = front ++ c :: back →
              (c ∈ granted ↔
                (p.claimUnits c).fits (p.free.sub (sum (front.filter fun d => decide (d ∈ granted)))) = true))
          ∧ ∀ a : Chan, a ∈ p.passOrder → p.isAnchored a = true → (∀ d ∈ p.passOrder, p.isAnchored d = true → d = a) →
              (a ∈ granted ↔ (p.claimUnits a).fits p.free = true)
                ∧ ∀ (c : Chan) (front back : List Chan), c ≠ a → p.passOrder = front ++ c :: back →
                    let before :=
                      (if a ∈ granted then [a] else []) ++ front.filter fun d => decide (d ≠ a) && decide (d ∈ granted)
                    (c ∈ granted ↔
                      (p.claimUnits c).fits (p.free.sub (sum before)) = true
                        ∧ (a ∈ granted ∨ (p.claimUnits c).disjoint (p.claimUnits a) = true)))

/-- After a pass: a granted claim is its channel's grant and waits no more; a claim that stayed waiting, the anchored one aside, has
gained one skip if a claim behind it in the pass order was granted and its count stood below SKIP_LIMIT; and with no claim anchored the
first waiting claim in the pass order at the limit is anchored. The tokens, the HOT capacity, the scheme and the refresh timer stay as
they were. Under ROTATING each grant in its turn moves its channel to the lowest place, or a pair's heads to the two lowest, head A above
head B. That a pass which grants the anchored claim chooses the next one itself is the model's choice (log 33). -/
def Obligations.PassCountsSkips : Prop :=
  ∀ (p : Plant) (limit : Nat), p.priority.Nodup →
    let granted := p.passGrants
    let q := (p.pass limit).1
    (p.pass limit).2 = granted
      ∧ q = { p with priority := q.priority, claims := q.claims, grants := q.grants }
      ∧ (∀ c : Chan, p.claims[c] = none → q.claims[c] = none)
      ∧ (∀ (c : Chan) (k : Claim), p.claims[c] = some k → c ∈ granted →
          q.claims[c] = none ∧ q.grants[c] = some { kind := k.kind, units := k.units, pair := k.pair })
      ∧ (∀ c : Chan, c ∉ granted → q.grants[c] = p.grants[c])
      ∧ (p.scheme = .fixed → q.priority = p.priority)
      ∧ (p.scheme = .rotating →
          let down (order : List Chan) (c : Chan) : List Chan :=
            if (p.claims[c]).any fun k => k.pair then
              (order.filter fun d => decide (d ≠ headA (bayOf c) ∧ d ≠ headB (bayOf c))) ++ [headA (bayOf c), headB (bayOf c)]
            else (order.filter fun d => decide (d ≠ c)) ++ [c]
          q.priority = granted.foldl down p.priority)
      ∧ let skips (c : Chan) (k : Claim) (behind : List Chan) : Nat :=
          if k.anchored = false ∧ (∃ d ∈ behind, d ∈ granted) ∧ k.skips < limit then k.skips + 1 else k.skips
        let stillAnchored := ∃ d ∈ p.passOrder, d ∉ granted ∧ p.isAnchored d = true
        ∀ (c : Chan) (k : Claim) (front back : List Chan), p.claims[c] = some k → c ∉ granted →
          p.passOrder = front ++ c :: back →
            let chosen :=
              ¬stillAnchored ∧ limit ≤ skips c k back
                ∧ ∀ (d : Chan) (j : Claim) (front' back' : List Chan), p.claims[d] = some j → d ∉ granted → d ∈ front →
                    p.passOrder = front' ++ d :: back' → skips d j back' < limit
            (chosen → q.claims[c] = some { k with skips := skips c k back, anchored := true })
              ∧ (¬chosen → q.claims[c] = some { k with skips := skips c k back })

/-! ## Clock -/

/-- What a second tick charges each channel: the grant's HOT units of a single head or a SERVICE channel whose HOT line is open, and for a
pair, to the lead, the step's hot units for each head whose HOT line is open. SECOND_TICK: the second count rises, or at its wrap makes a
minute tick due; the running, pause, drain-down, no-flow and settle timers, the refresh timer and the counting times count; and each
channel with an allowance is charged, never below 0, from the lines and grants as they stood. Each timer is compared with its setting as
it stands at this tick. The model's choices: what is due is marked and its own command acts (log 9), the tick at second 59 makes the
minute tick due and a tick that finds it still due takes it first (log 10), and the operand says whether a refresh that falls on this tick
comes before the charge (log 11). -/
def Obligations.SecondTick : Prop :=
  (∀ (c : Chan) (s : State),
      let hotOpen (d : Chan) : Nat := if (valveLines s d).hot = true then 1 else 0
      let role := (s.chan c).binding.map fun b => b.role
      ((s.chan c).state ≠ .running → (s.chan c).state ≠ .service → tokenCharge s c = 0)
        ∧ ((s.chan c).state = .service ∨ ((s.chan c).state = .running ∧ role = some .single) →
            tokenCharge s c = hotOpen c * (s.plant.grantUnits c).hot)
        ∧ (∀ st : RecipeStep, (s.chan c).state = .running → role = some .lead → stepOf s c = some st →
            tokenCharge s c = st.hotUnits * (hotOpen (headA (bayOf c)) + hotOpen (headB (bayOf c))))
        ∧ ((s.chan c).state = .running → role = none ∨ role = some .partner → tokenCharge s c = 0))
    ∧ (∀ (refreshFirst : Bool) (s : State), s.resetPin = false →
        let due := decide (s.setting .refreshPeriod ≤ countUp 3600 s.plant.refreshTimer)
        let clock : Clock :=
          if s.clock.second < 59 then { s.clock with period := 0, second := s.clock.second + 1 }
          else { s.clock with period := 0, minuteDue := true }
        let charged (u t : State) : Prop := ∀ c : Chan,
          t.plant.tokens[c]
            = if (u.plant.tokens[c]).allowance = 0 then u.plant.tokens[c]
              else { u.plant.tokens[c] with remaining := (u.plant.tokens[c]).remaining - tokenCharge s c }
        (s.clock.minuteDue = true →
            ∃ t : State,
              exec .minuteTick s = .next t ∧ t.clock.minuteDue = false
                ∧ exec (.secondTick refreshFirst) s = exec (.secondTick refreshFirst) t)
          ∧ (s.clock.minuteDue = false → refreshFirst = false ∨ due = false →
              ∃ t : State,
                exec (.secondTick refreshFirst) s = .next t
                  ∧ t = { s with
                          clock := clock, channels := t.channels, lanes := t.lanes, ports := t.ports
                          plant :=
                            { s.plant with
                              refreshTimer := countUp 3600 s.plant.refreshTimer, refreshDue := due, tokens := t.plant.tokens } }
                  ∧ charged s t ∧ SecondCounted s t)
          ∧ (s.clock.minuteDue = false → due = true →
              ∃ t u : State,
                exec (.secondTick false) s = .next t ∧ exec .refresh t = .next u
                  ∧ u = arbitrate (t.setPlant t.plant.refreshTokens))
          ∧ (s.clock.minuteDue = false → due = true →
              ∃ refreshed t : State,
                exec (.secondTick true) s = .next t
                  ∧ refreshed
                      = { s with
                          channels := refreshed.channels, lanes := refreshed.lanes, ports := refreshed.ports
                          plant :=
                            { s.plant with
                              refreshTimer := 0, refreshDue := false
                              tokens :=
                                Vector.ofFn fun c : Chan =>
                                  { allowance := (s.plant.tokens[c]).allowance
                                    remaining := (s.plant.tokens[c]).allowance } } }
                  ∧ SecondCounted s refreshed
                  ∧ t = { arbitrate refreshed with
                          clock := clock, plant := { (arbitrate refreshed).plant with tokens := t.plant.tokens } }
                  ∧ charged (arbitrate refreshed) t))

/-- MINUTE_TICK, once a second tick has made it due: the second count wraps, the minute count rises modulo 2^24, and every CLEARED record
whose expiry is reached is HELD with its certificate voided and both notices raised. That the tick is a command of its own, with no effect
unless due, is the model's choice of log 10. -/
def Obligations.MinuteTick : Prop :=
  ∀ s : State, s.resetPin = false →
    (s.clock.minuteDue = false → exec .minuteTick s = .next s)
      ∧ (s.clock.minuteDue = true →
          let minute := (s.clock.minute + 1) % 16777216
          let expired (i : Comp) : Prop :=
            (s.comp i).state = .cleared ∧ ∃ x : Certificate, (s.comp i).cert = some x ∧ minuteReached x.expiry minute = true
          ∃ t : State,
            exec .minuteTick s = .next t
              ∧ t = { s with
                      clock := { s.clock with second := 0, minute := minute, minuteDue := false }
                      comps := t.comps, ports := t.ports }
              ∧ (∀ i : Comp,
                  (expired i →
                      t.comp i
                        = { s.comp i with state := .held, hold := some .certExpired, binding := none, cert := none })
                    ∧ (¬expired i → t.comp i = s.comp i))
              ∧ SamePortsBut s t officePort
              ∧ t.port officePort = { s.port officePort with flags := (t.port officePort).flags }
              ∧ ∀ n : Notice, n ∈ (t.port officePort).flags ↔
                  n ∈ (s.port officePort).flags
                    ∨ ∃ i : Comp, expired i ∧ (n = ⟨1, i.val + 1⟩ ∨ n = ⟨2, i.val + 1⟩))

/-! ## Inspections and probe lines -/

/-- INSPECT's checks in order, each refusal changing no state. An accepted INSPECT makes the record INSPECTING and the context present
with the snapshot of its class's maxima, and opens the line: POWERING, bound to the record, with the start values of a session. The end of
an inspection whose line closes: CLOSING with the off timer started, the bound compartment cleared and the outcome as last result, the
context absent, and INSPECTION_ENDED raised on the port of the context's bay. -/
def Obligations.Inspect : Prop :=
  (∀ (r : Request) (s : State) (b : Bay) (n k : Byte), Asked s .inspect r → r.port = bayPort b → r.payload = [n, k] →
      (s.yardOpen = false → exec (.inspect r) s = .next (s.answered .inspect r .notOpen []))
        ∧ (s.yardOpen = true → NamesNone 96 n ∨ NamesNone 2 k →
            exec (.inspect r) s = .next (s.answered .inspect r .badArg []))
        ∧ ∀ (i : Comp) (l : Line), s.yardOpen = true → Names n i → Names k l →
            ((s.comp i).state = .free → exec (.inspect r) s = .next (s.answered .inspect r .noSuch []))
              ∧ ((s.comp i).state ≠ .free → parkedBay i s ≠ some b →
                  exec (.inspect r) s = .next (s.answered .inspect r .notPermitted []))
              ∧ ((s.comp i).state ≠ .free → parkedBay i s = some b →
                  ((s.comp i).state ≠ .inspectWait →
                      exec (.inspect r) s = .next (s.answered .inspect r .wrongState []))
                    ∧ ((s.comp i).state = .inspectWait → (s.line l).state = .detached →
                      exec (.inspect r) s = .next (s.answered .inspect r .notDocked []))
                    ∧ ((s.comp i).state = .inspectWait → (s.line l).state ≠ .detached → (s.line l).state ≠ .docked →
                      exec (.inspect r) s = .next (s.answered .inspect r .busy []))))
    ∧ (∀ (r : Request) (s : State) (b : Bay) (n k : Byte) (i : Comp) (l : Line) (c : CargoClass) (e : Fin 31),
        Asked s .inspect r → r.port = bayPort b → r.payload = [n, k] → s.yardOpen = true → Names n i → Names k l →
        (s.comp i).state = .inspectWait → parkedBay i s = some b → (s.line l).state = .docked →
        (s.comp i).nextClass = some c → c.val = e.val + 1 →
          exec (.inspect r) s
            = .next
                ((((s.answered .inspect r .ok []).setComp i { s.comp i with state := .inspecting }).setInspection l
                    (some
                      { comp := i, bay := b, phase := .opening, limits := (s.limits[e]).maxima,
                        toTake := s.setting .samples, taken := 0, worst := ⟨0, 0, 0, 0⟩ })).setLine l
                  { s.line l with
                    state := .powering, bound := some i, bitOrder := .lsbFirst, speed := 1, extraGuard := 0
                    checkMode := .lrc, maxLength := 0, exchange := ⟨[], 0, 0, none⟩
                    timers := ⟨some ⟨s.setting .powerUpTime, 480⟩, none, none, none, none, none, none, none⟩
                    transmissions := 0, badReceptions := 0, received := [], badLength := false, sending := none }))
    ∧ (∀ (r : Request) (s : State) (n : Byte), Asked s .cancelInspect r → r.payload = [n] →
        (NamesNone 2 n → exec (.cancelInspect r) s = .next (s.answered .cancelInspect r .badArg []))
          ∧ ∀ l : Line, Names n l →
              (s.inspection l = none → exec (.cancelInspect r) s = .next (s.answered .cancelInspect r .wrongState []))
                ∧ ∀ x : Inspection, s.inspection l = some x →
                    (∀ b : Bay, r.port = bayPort b → b ≠ x.bay →
                        exec (.cancelInspect r) s = .next (s.answered .cancelInspect r .notPermitted []))
                      ∧ (r.port = officePort ∨ r.port = bayPort x.bay → (s.line l).state.inSession = true →
                          (s.comp x.comp).state = .inspecting →
                            exec (.cancelInspect r) s
                              = .next
                                  (raiseNotice (bayPort x.bay) 4 (l.val + 1)
                                    ((((s.answered .cancelInspect r .ok []).setComp x.comp
                                          { s.comp x.comp with state := .inspectWait }).setLine l
                                        { s.line l with
                                          state := .closing, bound := none
                                          timers :=
                                            ⟨none, none, none, none, none, none, none,
                                              some ⟨s.setting .powerOffTime, bitPeriod (s.line l).speed⟩⟩
                                          transmissions := 0, received := [], badLength := false, sending := none
                                          lastResult := some .cancelled }).setInspection l none))))

/-- A link error, taken in a session alone, records itself, closes the line, ends the inspection with LINK_ERROR and counts a try: the
third holds the record with PROBE_FAIL, a lower count returns it to INSPECT_WAIT with its readings unchanged. The dock and the timed
phases of a session: the debounced dock and what it does in each state, power-up, reset length, and the end of CLOSING. An expiry that
finds another state changes nothing. The limits that end a session or break off a block: the sync timer and the opening limit in OPENING,
the block wait in AWAITING, and the character wait in RECEIVING, which makes a bad block answered with REPEAT up to the third. The
expiries are commands that act while their timer runs in the state that its rule names, and change nothing otherwise (log 12); in OPENING
the expiry of either limit is OPEN_LIMIT_EXPIRY, and CHAR_WAIT_EXPIRY acts in RECEIVING alone (log 29). -/
def Obligations.LinkErrorsDockAndLimits : Prop :=
  (∀ (l : Line) (e : LinkError) (s : State),
      ((s.line l).state = .detached ∨ (s.line l).state = .docked ∨ (s.line l).state = .closing → linkError l e s = s)
        ∧ ∀ x : Inspection, (s.line l).state ≠ .detached → (s.line l).state ≠ .docked → (s.line l).state ≠ .closing →
            s.inspection l = some x → (s.comp x.comp).state = .inspecting →
              let y := s.comp x.comp
              let closed :=
                (s.setLine l
                    { s.line l with
                      state := .closing, bound := none, lastError := some e, lastResult := some .linkError
                      timers :=
                        ⟨none, none, none, none, none, none, none,
                          some ⟨s.setting .powerOffTime, bitPeriod (s.line l).speed⟩⟩
                      transmissions := 0, received := [], badLength := false, sending := none }).setInspection l none
              (y.tries < 2 →
                  linkError l e s
                    = raiseNotice (bayPort x.bay) 4 (l.val + 1)
                        (closed.setComp x.comp { y with state := .inspectWait, tries := y.tries + 1 }))
                ∧ (2 ≤ y.tries →
                  linkError l e s
                    = raiseNotice (bayPort x.bay) 4 (l.val + 1)
                        (raiseNotice officePort 1 (x.comp.val + 1)
                          (closed.setComp x.comp
                            { y with
                              state := .held, tries := y.tries + 1, hold := some .probeFail, binding := none
                              cert := none }))))
    ∧ (∀ (l : Line) (s : State), s.resetPin = false →
        let x := s.line l
        (∀ level : Bool,
            exec (.pdockChange l level) s
              = .next
                  (s.setLine l
                    { x with
                      pdock := level
                      debounce :=
                        if level = x.docked then none
                        else if x.debounce = none then some (s.setting .dockDebounce) else x.debounce }))
          ∧ (x.debounce = none → exec (.dockDebounceExpiry l) s = .next s)
          ∧ (∀ ms : Nat, x.debounce = some ms →
              let t := s.setLine l { x with docked := x.pdock, debounce := none }
              (x.state = .closing → exec (.dockDebounceExpiry l) s = .next t)
                ∧ (x.state = .detached → x.pdock = true →
                    exec (.dockDebounceExpiry l) s
                      = .next (s.setLine l { x with state := .docked, docked := true, debounce := none }))
                ∧ (x.state = .docked → x.pdock = false →
                    exec (.dockDebounceExpiry l) s
                      = .next (s.setLine l { x with state := .detached, docked := false, debounce := none }))
                ∧ (x.state.inSession = true → x.pdock = false →
                    exec (.dockDebounceExpiry l) s = .next (linkError l .undocked t)))
          ∧ exec (.powerUpExpiry l) s
              = .next
                  (if x.state = .powering then
                     s.setLine l
                       { x with
                         state := .resetting, divider := s.setting .pclkDivider
                         timers :=
                           ⟨none, some ⟨s.setting .resetLength, bitPeriod x.speed⟩, none, none, none, none, none, none⟩ }
                   else s)
          ∧ exec (.resetLengthExpiry l) s
              = .next
                  (if x.state = .resetting then
                     s.setLine l
                       { x with
                         state := .opening, received := [], badReceptions := 0
                         timers :=
                           ⟨none, none, some ⟨s.setting .syncTimeout, bitPeriod x.speed⟩, none, none, none, none, none⟩ }
                   else s)
          ∧ exec (.offTimerExpiry l) s
              = .next
                  (if x.state = .closing then
                     s.setLine l
                       { x with
                         state := if x.docked = true then .docked else .detached, timers := { x.timers with off := none } }
                   else s))
    ∧ (∀ (l : Line) (s : State), s.resetPin = false →
        let x := s.line l
        exec (.syncTimeout l) s
            = .next (if x.state = .opening ∧ x.timers.sync ≠ none then linkError l .openTimeout s else s)
          ∧ exec (.openLimitExpiry l) s
              = .next (if x.state = .opening ∧ x.timers.opening ≠ none then linkError l .openTimeout s else s)
          ∧ exec (.blockWaitExpiry l) s = .next (if x.state = .awaiting then linkError l .replyTimeout s else s)
          ∧ (x.state ≠ .receiving ∨ x.timers.charWait = none → exec (.charWaitExpiry l) s = .next s)
          ∧ (x.state = .receiving → x.timers.charWait ≠ none → 2 ≤ x.exchange.repeats →
              exec (.charWaitExpiry l) s = .next (linkError l .blockErrors s))
          ∧ (x.state = .receiving → x.timers.charWait ≠ none → x.exchange.repeats < 2 →
              exec (.charWaitExpiry l) s
                = .next
                    (s.setLine l
                      { x with
                        state := .sending, sending := some ⟨blockTo x.checkMode 0x20 [], false, false⟩
                        exchange := { x.exchange with repeats := x.exchange.repeats + 1 }
                        transmissions := 0, received := [], badLength := false
                        timers := { x.timers with charWait := none, blockWait := none } })))

/-- Sending: BLOCK_SEND_START begins the first transmission; CHARACTER_SENT with no error signal goes on to the next character or, at the
last, to AWAITING with the block wait timer; with one it sends the character again up to the fourth transmission, then CHAR_RETRY. The
parity bit is inverted while PARITY_INVERT is on. BLOCK_SEND_START stands for the end of the block guard time: it changes nothing once the
block has begun, and CHARACTER_SENT nothing before (log 12). While a character is being sent the part drives its data bits in the line's
bit order, least or most significant first, and its parity bit; at no other time does it drive a character. The parity bit of a byte makes
the number of ones even. A MEASURE is an INFO block of the one byte 21h, sent from READY with an empty exchange record; it is the last
block sent. The probe CRC of a run of bytes is the remainder of their bits, most significant first, with the first 16 inverted and 16
zeros behind, on division by x^16 + x^12 + x^5 + 1. -/
def Obligations.BlocksAreSent : Prop :=
  (∀ (l : Line) (s : State) (y : Sending), s.resetPin = false → (s.line l).state = .sending →
      (s.line l).sending = some y →
        let x := s.line l
        let invert := decide (s.setting (if l = 0 then .parityInvertPA else .parityInvertPB) = 1)
        let bit (b : Byte) : Bool := evenParity b ^^ invert
        SettingsInRange s → ∀ (b : Byte) (rest : List Byte), y.left = b :: rest →
          (y.started = false →
              exec (.blockSendStart l) s
                = .next
                    (s.setLine l
                      { x with
                        transmissions := 1, timers := { x.timers with blockGuard := none }
                        sending := some { y with started := true, parityBit := bit b } })
                ∧ ∀ e : Bool, exec (.characterSent l e) s = .next s)
            ∧ (y.started = true →
                exec (.blockSendStart l) s = .next s
                  ∧ (x.transmissions < 4 →
                      exec (.characterSent l true) s
                        = .next
                            (s.setLine l
                              { x with
                                transmissions := x.transmissions + 1
                                sending := some { y with started := true, parityBit := bit b } }))
                  ∧ (4 ≤ x.transmissions → exec (.characterSent l true) s = .next (linkError l .charRetry s))
                  ∧ (∀ (c : Byte) (more : List Byte), rest = c :: more →
                      exec (.characterSent l false) s
                        = .next
                            (s.setLine l
                              { x with
                                transmissions := 1
                                sending := some { left := rest, started := true, parityBit := bit c } }))
                  ∧ (rest = [] →
                      exec (.characterSent l false) s
                        = .next
                            (s.setLine l
                              { x with
                                state := .awaiting, sending := none, transmissions := 0, badReceptions := 0
                                received := []
                                timers :=
                                  { x.timers with
                                    blockWait :=
                                      some
                                        ⟨s.setting .blockWait * x.exchange.factor.getD 1, bitPeriod x.speed⟩ } }))))
    ∧ ((∀ (l : Line) (s : State) (y : Sending) (b : Byte) (rest : List Byte), s.resetPin = false →
          (s.line l).state = .sending → (s.line l).sending = some y → y.left = b :: rest → y.started = true →
            ((s.line l).bitOrder = .lsbFirst → drivenCharacter s l = some { wire := b, parity := y.parityBit })
              ∧ ((s.line l).bitOrder = .msbFirst → ∃ w : Byte, drivenCharacter s l = some { wire := w, parity := y.parityBit }
                  ∧ ∀ i : Nat, i < 8 → w.getLsbD i = b.getLsbD (7 - i)))
        ∧ (∀ (l : Line) (s : State),
            s.resetPin = true ∨ (s.line l).state ≠ .sending ∨ (∀ y : Sending, (s.line l).sending = some y → y.started = false) →
              drivenCharacter s l = none)
        ∧ ∀ b : Byte, (((List.range 8).countP fun i => b.getLsbD i) + (if evenParity b = true then 1 else 0)) % 2 = 0)
    ∧ (∀ (l : Line) (s : State),
        let x := s.line l
        let block : List Byte :=
          [1, 0x10, 1, 0x21]
            ++ (match x.checkMode with
                | .lrc => [lrc [1, 0x10, 1, 0x21]]
                | .crc =>
                  [byte ((probeCrc [1, 0x10, 1, 0x21]).toNat / 256), byte (probeCrc [1, 0x10, 1, 0x21]).toNat])
        (x.state ≠ .ready → measure l s = s)
          ∧ (x.state = .ready →
              measure l s
                = s.setLine l
                    { x with
                      state := .sending, sending := some { left := block, started := false, parityBit := false }
                      exchange := { lastBlock := block, waits := 0, repeats := 0, factor := none }
                      transmissions := 0, received := [], badLength := false
                      timers := { x.timers with charWait := none, blockWait := none } }))
    ∧ ((∀ l : List Byte,
          MultipleOf 0x11021 ((messageBits l <<< 16) ^^^ (0xFFFF <<< (8 * l.length)) ^^^ (probeCrc l).toNat))
        ∧ probeCrc [0x31, 0x32, 0x33, 0x34, 0x35, 0x36, 0x37, 0x38, 0x39] = 0x29B1)

/-- The sync character of the opening reply: A6h keeps LSB-first, 65h makes the session MSB-first, any other value of good parity is
BAD_SYNC; bad parity is discarded and the fourth in a row is PARITY. The first character, bad or good, ends the wait for sync and starts
the opening timer. A character in READY is PROTOCOL, and one in a state that does not look at PDAT has no effect. A character of good
parity sets the bad-reception count to 0, also where it ends the session. The characters of the opening reply after the sync character,
read in the bit order that it set: one of bad parity is discarded and the fourth in a row is PARITY; a length byte outside 12..20 is
PROTOCOL; every other takes its place, and the last one stops the reply's timers. A character that finds the reply complete comes after
its judgement (log 23). OPENING_REPLY: a complete reply of a wrong LRC is OPEN_CHECK, one of values out of range PROTOCOL, and any other
sets the session items and is reported to the inspection: an age above CAL_LIMIT ends it CAL_EXPIRED, else the first MEASURE is sent. An
incomplete reply changes nothing. That the judgement is a command of its own is log 23. The characters of a block: the first one in
AWAITING puts the line in RECEIVING, stops the block wait and clears the wait factor, and is then taken as one of the block. In RECEIVING
one of bad parity is discarded and the fourth in a row is PARITY; a length byte above 64 or above the session's maximum is kept and what
follows is discarded; every other takes its place, and the last one stops the character wait. A character that finds the block complete
comes after its judgement (log 23). -/
def Obligations.OpeningReply : Prop :=
  (∀ (l : Line) (c : ProbeChar) (s : State), s.resetPin = false →
      let x := s.line l
      (x.state = .ready → exec (.probeCharacterReceived l c) s = .next (linkError l .protocol s))
        ∧ (x.state = .detached ∨ x.state = .docked ∨ x.state = .powering ∨ x.state = .resetting ∨ x.state = .sending
              ∨ x.state = .closing →
            exec (.probeCharacterReceived l c) s = .next s)
        ∧ (x.state = .opening → x.received = [] → x.bitOrder = .lsbFirst →
            let noted : ProbeLine :=
              { x with
                timers :=
                  { x.timers with
                    sync := none
                    opening :=
                      if x.timers.opening = none then some ⟨s.setting .openLimit, bitPeriod x.speed⟩ else x.timers.opening
                    charWait := some ⟨s.setting .charWait, bitPeriod x.speed⟩
                    blockGuard := some ⟨s.setting .blockGuard, bitPeriod x.speed⟩ } }
            (c.parity ≠ evenParity c.wire → x.badReceptions < 3 →
                exec (.probeCharacterReceived l c) s
                  = .next (s.setLine l { noted with badReceptions := x.badReceptions + 1 }))
              ∧ (c.parity ≠ evenParity c.wire → 3 ≤ x.badReceptions →
                  exec (.probeCharacterReceived l c) s
                    = .next
                        (linkError l .parity (s.setLine l { noted with badReceptions := x.badReceptions + 1 })))
              ∧ (c.parity = evenParity c.wire → c.wire = 0xA6 →
                  exec (.probeCharacterReceived l c) s
                    = .next (s.setLine l { noted with received := [0xA6], badReceptions := 0 }))
              ∧ (c.parity = evenParity c.wire → c.wire = 0x65 →
                  exec (.probeCharacterReceived l c) s
                    = .next
                        (s.setLine l { noted with received := [0xA6], badReceptions := 0, bitOrder := .msbFirst }))
              ∧ (c.parity = evenParity c.wire → c.wire ≠ 0xA6 → c.wire ≠ 0x65 →
                  exec (.probeCharacterReceived l c) s
                    = .next (linkError l .badSync (s.setLine l { noted with badReceptions := 0 })))))
    ∧ (∀ (l : Line) (c : ProbeChar) (s : State), s.resetPin = false → (s.line l).state = .opening →
        let x := s.line l
        let value := if x.bitOrder = .lsbFirst then c.wire else reverseBits c.wire
        let length := (x.received.getD 1 0).toNat
        let incomplete := 2 ≤ x.received.length ∧ x.received.length ≠ length + 3
        let noted : ProbeLine :=
          { x with
            timers :=
              { x.timers with
                sync := none
                opening :=
                  if x.timers.opening = none then some ⟨s.setting .openLimit, bitPeriod x.speed⟩ else x.timers.opening
                charWait := some ⟨s.setting .charWait, bitPeriod x.speed⟩
                blockGuard := some ⟨s.setting .blockGuard, bitPeriod x.speed⟩ } }
        (x.received.length = 1 ∨ incomplete → c.parity ≠ evenParity c.wire →
            let t := s.setLine l { noted with badReceptions := x.badReceptions + 1 }
            exec (.probeCharacterReceived l c) s = .next (if 3 ≤ x.badReceptions then linkError l .parity t else t))
          ∧ (∀ a : Byte, x.received = [a] → c.parity = evenParity c.wire →
              exec (.probeCharacterReceived l c) s
                = .next
                    (if 12 ≤ value.toNat ∧ value.toNat ≤ 20 then
                       s.setLine l { noted with received := [a, value], badReceptions := 0 }
                     else linkError l .protocol (s.setLine l { noted with badReceptions := 0 })))
          ∧ (incomplete → c.parity = evenParity c.wire →
              let kept : ProbeLine := { noted with received := x.received ++ [value], badReceptions := 0 }
              exec (.probeCharacterReceived l c) s
                = .next
                    (s.setLine l
                      (if x.received.length + 1 = length + 3 then
                         { kept with timers := { kept.timers with opening := none, charWait := none } }
                       else kept)))
          ∧ (2 ≤ x.received.length → x.received.length = length + 3 →
              ∃ t : State,
                exec (.openingReply l) s = .next t
                  ∧ exec (.probeCharacterReceived l c) s = exec (.probeCharacterReceived l c) t)
          ∧ ∀ (b : Byte) (i : Nat), i < 8 → (reverseBits b).getLsbD i = b.getLsbD (7 - i))
    ∧ (∀ (l : Line) (s : State), s.resetPin = false →
        let x := s.line l
        (x.state ≠ .opening ∨ x.received.length < 2 ∨ x.received.length ≠ (x.received.getD 1 0).toNat + 3 →
            exec (.openingReply l) s = .next s)
          ∧ ∀ (n kind serial3 serial2 serial1 serial0 age1 age0 speed guard check size sum : Byte) (vendor : List Byte),
              x.state = .opening → n.toNat = vendor.length + 11 →
              x.received
                  = [0xA6, n, kind, serial3, serial2, serial1, serial0, age1, age0, speed, guard, check, size] ++ vendor
                      ++ [sum] →
                let body :=
                  [n, kind, serial3, serial2, serial1, serial0, age1, age0, speed, guard, check, size] ++ vendor
                let age := 256 * age1.toNat + age0.toNat
                let good :=
                  speed.toNat ≤ 7 ∧ guard.toNat ≤ 243 ∧ check.toNat ≤ 1 ∧ 16 ≤ size.toNat ∧ size.toNat ≤ 64
                (lrc body ≠ sum → exec (.openingReply l) s = .next (linkError l .openCheck s))
                  ∧ (lrc body = sum → ¬good → exec (.openingReply l) s = .next (linkError l .protocol s))
                  ∧ (lrc body = sum → good →
                      let opened :=
                        s.setLine l
                          { x with
                            state := .ready
                            speed := min speed.toNat (s.setting (if l = 0 then .maxSpeedPA else .maxSpeedPB))
                            extraGuard := guard.toNat, checkMode := if check = 0 then .lrc else .crc
                            maxLength := size.toNat, received := [] }
                      ∀ i : Inspection, s.inspection l = some i →
                        (age ≤ s.setting .calLimit →
                            exec (.openingReply l) s
                              = .next
                                  (measure l (opened.setInspection l (some { i with phase := .sampling }))))
                          ∧ (s.setting .calLimit < age →
                              exec (.openingReply l) s
                                = .next
                                    (finishInspection l i .calExpired
                                      (reportNoJudgement i.comp (closeLine l none opened))))))
    ∧ (∀ (l : Line) (c : ProbeChar) (s : State), s.resetPin = false →
        let x := s.line l
        let value := if x.bitOrder = .lsbFirst then c.wire else reverseBits c.wire
        let size : Nat := match x.checkMode with
          | .lrc => 1
          | .crc => 2
        let whole (bytes : List Byte) : Prop := 3 ≤ bytes.length ∧ bytes.length = (bytes.getD 2 0).toNat + 3 + size
        let noted : ProbeLine :=
          { x with
            timers :=
              { x.timers with
                charWait := some ⟨s.setting .charWait, bitPeriod x.speed⟩
                blockGuard := some ⟨s.setting .blockGuard, bitPeriod x.speed⟩ } }
        (x.state = .awaiting →
            exec (.probeCharacterReceived l c) s
              = exec (.probeCharacterReceived l c)
                  (s.setLine l
                    { x with
                      state := .receiving, received := [], badLength := false, exchange := { x.exchange with factor := none }
                      timers := { x.timers with blockWait := none } }))
          ∧ (x.state = .receiving → x.badLength = true ∨ ¬whole x.received → c.parity ≠ evenParity c.wire →
              let t := s.setLine l { noted with badReceptions := x.badReceptions + 1 }
              exec (.probeCharacterReceived l c) s = .next (if 3 ≤ x.badReceptions then linkError l .parity t else t))
          ∧ (x.state = .receiving → x.badLength = true → c.parity = evenParity c.wire →
              exec (.probeCharacterReceived l c) s = .next (s.setLine l { noted with badReceptions := 0 }))
          ∧ (x.state = .receiving → x.badLength = false → ¬whole x.received → c.parity = evenParity c.wire →
              let bytes := x.received ++ [value]
              let kept : ProbeLine := { noted with received := bytes, badReceptions := 0 }
              let tooLong := bytes.length = 3 ∧ (64 < value.toNat ∨ x.maxLength < value.toNat)
              (tooLong → exec (.probeCharacterReceived l c) s = .next (s.setLine l { kept with badLength := true }))
                ∧ (¬tooLong → ¬whole bytes → exec (.probeCharacterReceived l c) s = .next (s.setLine l kept))
                ∧ (¬tooLong → whole bytes →
                    exec (.probeCharacterReceived l c) s
                      = .next (s.setLine l { kept with timers := { kept.timers with charWait := none } })))
          ∧ (x.state = .receiving → x.badLength = false → whole x.received →
              ∃ t : State,
                exec (.blockReceived l) s = .next t
                  ∧ exec (.probeCharacterReceived l c) s = exec (.probeCharacterReceived l c) t))

/-- BLOCK_RECEIVED: a complete block is judged row by row: a wrong check is a bad block, a wrong route or control or a malformed REPEAT or
WAIT is PROTOCOL, a WAIT extends the wait and is echoed up to three times, a REPEAT sends the last block again up to two repeats, and an
INFO ends the exchange in READY and is reported. That the judgement is a command of its own, which outside RECEIVING, with an incomplete
block and with a bad length changes nothing, is log 23. The inspection's use of an exchange's data: an answer that is not a good MEASURE
closes the line with PROTOCOL and counts a try; a good sample raises the worst readings and is followed by the next MEASURE, or by the
judgement: PASS with a certificate where no worst reading is above its maximum, else FAIL with the failed measures in order. -/
def Obligations.BlockReceived : Prop :=
  (∀ (l : Line) (s : State), s.resetPin = false →
      let x := s.line l
      let size : Nat := match x.checkMode with
        | .lrc => 1
        | .crc => 2
      let whole := 3 ≤ x.received.length ∧ x.received.length = (x.received.getD 2 0).toNat + 3 + size
      (x.state ≠ .receiving ∨ x.badLength = true ∨ ¬whole → exec (.blockReceived l) s = .next s)
        ∧ ∀ (route control : Byte) (data check : List Byte), x.state = .receiving → x.badLength = false →
            data.length ≤ 64 → check.length = size →
            x.received = [route, control, byte data.length] ++ data ++ check →
              let covered := [route, control, byte data.length] ++ data
              let good := check = blockCheck x.checkMode covered
              let sent (block : List Byte) (e : Exchange) : State :=
                s.setLine l
                  { x with
                    state := .sending, sending := some { left := block, started := false, parityBit := false }
                    exchange := e, transmissions := 0, received := [], badLength := false
                    timers := { x.timers with charWait := none, blockWait := none } }
              let again (block : List Byte) : State :=
                if 2 ≤ x.exchange.repeats then linkError l .blockErrors s
                else sent block { x.exchange with repeats := x.exchange.repeats + 1 }
              (¬good → exec (.blockReceived l) s = .next (again (blockTo x.checkMode 0x20 [])))
                ∧ (good → route ≠ 2 ∨ (control ≠ 0x10 ∧ control ≠ 0x20 ∧ control ≠ 0x30) →
                    exec (.blockReceived l) s = .next (linkError l .protocol s))
                ∧ (good → route = 2 → control = 0x20 → data ≠ [] →
                    exec (.blockReceived l) s = .next (linkError l .protocol s))
                ∧ (good → route = 2 → control = 0x20 → data = [] →
                    exec (.blockReceived l) s = .next (again x.exchange.lastBlock))
                ∧ (good → route = 2 → control = 0x30 → (∀ f : Byte, data = [f] → f.toNat = 0 ∨ 15 < f.toNat) →
                    exec (.blockReceived l) s = .next (linkError l .protocol s))
                ∧ (∀ f : Byte, good → route = 2 → control = 0x30 → data = [f] → 1 ≤ f.toNat → f.toNat ≤ 15 →
                    let echo := blockTo x.checkMode 0x30 [f]
                    exec (.blockReceived l) s
                      = .next
                          (if 3 ≤ x.exchange.waits then linkError l .waitLimit s
                           else
                             sent echo
                               { x.exchange with
                                 waits := x.exchange.waits + 1, factor := some f.toNat, lastBlock := echo }))
                ∧ (good → route = 2 → control = 0x10 →
                    exec (.blockReceived l) s
                      = .next (exchangeDone l data (s.setLine l { x with state := .ready, received := [] }))))
    ∧ (∀ (l : Line) (s : State) (x : Inspection) (data : List Byte), s.inspection l = some x →
        ((∀ f1 f0 t1 t0 c1 c0 d1 d0 : Byte, data ≠ [0x21, f1, f0, t1, t0, c1, c0, d1, d0, 0]) →
            exchangeDone l data s
              = finishInspection l x .linkError (reportLinkError x.comp (closeLine l (some .protocol) s)))
          ∧ ∀ f1 f0 t1 t0 c1 c0 d1 d0 : Byte, data = [0x21, f1, f0, t1, t0, c1, c0, d1, d0, 0] →
              let worst : Measures :=
                ⟨max x.worst.film (256 * f1.toNat + f0.toNat), max x.worst.turbidity (256 * t1.toNat + t0.toNat),
                  max x.worst.conductivity (256 * c1.toNat + c0.toNat), max x.worst.depth (256 * d1.toNat + d0.toNat)⟩
              let y : Inspection := { x with taken := x.taken + 1, worst := worst }
              let failed : List Measure :=
                (if x.limits.film < worst.film then [.film] else [])
                  ++ (if x.limits.turbidity < worst.turbidity then [.turbidity] else [])
                  ++ (if x.limits.conductivity < worst.conductivity then [.conductivity] else [])
                  ++ (if x.limits.depth < worst.depth then [.depth] else [])
              let closed := closeLine l none s
              (x.taken + 1 < x.toTake → exchangeDone l data s = measure l (s.setInspection l (some y)))
                ∧ (x.toTake ≤ x.taken + 1 → (s.comp x.comp).state = .inspecting →
                    (failed = [] →
                        exchangeDone l data s
                          = finishInspection l y .pass
                              (issueCertificate x.comp
                                (closed.setComp x.comp { s.comp x.comp with readings := some ⟨worst, []⟩ })))
                      ∧ (failed ≠ [] →
                        exchangeDone l data s
                          = finishInspection l y .fail
                              (raiseNotice officePort 1 (x.comp.val + 1)
                                (closed.setComp x.comp
                                  { s.comp x.comp with
                                    state := .held, readings := some ⟨worst, failed⟩, hold := some .inspectFail
                                    binding := none, cert := none })))))

/-! ## Fill lanes -/

/-- AUTHORIZE_FILL's checks in order, each refusal leaving the lane and the record as they were. An accepted AUTHORIZE_FILL sets the
lane's context, compare value and cleared counts, enters ACTIVE, and makes the record FILLING. -/
def Obligations.AuthorizeFill : Prop :=
  (∀ (r : Request) (s : State) (k n p v0 v1 : Byte), Asked s .authorizeFill r → r.payload = [k, n, p, v0, v1] →
      (s.yardOpen = false → exec (.authorizeFill r) s = .next (s.answered .authorizeFill r .notOpen []))
        ∧ (s.yardOpen = true → NamesNone 2 k ∨ NamesNone 96 n ∨ p.toNat = 0 ∨ 31 < p.toNat →
            exec (.authorizeFill r) s = .next (s.answered .authorizeFill r .badArg []))
        ∧ ∀ (l : Lane) (i : Comp) (c : CargoClass), s.yardOpen = true → Names k l → Names n i → p.toNat = c.val → c ≠ 0 →
            let busy := (s.lane l).state ≠ .idle
            let free := (s.comp i).state = .free
            let wrong := (s.comp i).state ≠ .cleared ∨ parkedBay i s ≠ none
            let suits :=
              ∃ x : Certificate, (s.comp i).cert = some x ∧ (c = x.clearedClass ∨ s.cell x.clearedClass c = .none)
            let volume := v0.toNat + 256 * v1.toNat
            (busy → exec (.authorizeFill r) s = .next (s.answered .authorizeFill r .busy []))
              ∧ (¬busy → free → exec (.authorizeFill r) s = .next (s.answered .authorizeFill r .noSuch []))
              ∧ (¬busy → ¬free → wrong → exec (.authorizeFill r) s = .next (s.answered .authorizeFill r .wrongState []))
              ∧ (¬busy → ¬free → ¬wrong → (s.lane l).arm = false →
                  exec (.authorizeFill r) s = .next (s.answered .authorizeFill r .notReady []))
              ∧ (¬busy → ¬free → ¬wrong → (s.lane l).arm = true → ¬suits →
                  exec (.authorizeFill r) s = .next (s.answered .authorizeFill r .classMismatch []))
              ∧ (¬busy → ¬free → ¬wrong → (s.lane l).arm = true → suits → volume = 0 ∨ (s.comp i).capacity < volume →
                  exec (.authorizeFill r) s = .next (s.answered .authorizeFill r .badArg [])))
    ∧ (∀ (r : Request) (s : State) (k n p v0 v1 : Byte) (l : Lane) (i : Comp) (c : CargoClass) (x : Certificate),
        Asked s .authorizeFill r → r.payload = [k, n, p, v0, v1] → s.yardOpen = true → Names k l → Names n i →
        p.toNat = c.val → c ≠ 0 → (s.lane l).state = .idle → (s.comp i).state = .cleared → parkedBay i s = none →
        (s.lane l).arm = true → (s.comp i).cert = some x → (c = x.clearedClass ∨ s.cell x.clearedClass c = .none) →
          let volume := v0.toNat + 256 * v1.toNat
          1 ≤ volume → volume ≤ (s.comp i).capacity →
            exec (.authorizeFill r) s
              = .next
                  (((s.answered .authorizeFill r .ok []).setLane l
                      { s.lane l with
                        state := .active, context := some ⟨i, c, volume⟩, counter := 0, compare := volume, capture := 0
                        cause := none, lastOutcome := none, noFlow := 0, noFlowDue := false }).setComp i
                    { s.comp i with state := .filling }))

/-- The four causes that close the valve in ACTIVE, each capturing the counter and starting the settle timer; in SETTLING and IDLE a cause
has no effect, and STOP_FILL is refused WRONG_STATE. A pulse is counted in ACTIVE and SETTLING alone. The end of SETTLING: the record is
FILLED with a fill record of the final count, or CLEARED again for a count of 0, keeping its certificate; the lane returns to IDLE with
its outcome kept, and LANE_DONE is raised. The expiries act when due and change nothing otherwise (log 9), and the ARM commands act by the
state alone (log 28). -/
def Obligations.FillEnds : Prop :=
  (∀ (l : Lane) (s : State), s.resetPin = false →
      let x := s.lane l
      let closed (y : FillLane) (cause : FillOutcome) : State :=
        s.setLane l
          { y with
            state := .settling, capture := y.counter, cause := some cause, noFlow := 0, noFlowDue := false, settle := 0
            settleTime := s.setting .settleTime }
      let n := if x.counter < 65535 then x.counter + 1 else x.counter
      (valveOpen s l = true ↔ x.state = .active)
        ∧ (x.state = .idle → exec (.laneMeterPulse l) s = .next s)
        ∧ (x.state = .settling → exec (.laneMeterPulse l) s = .next (s.setLane l { x with counter := n }))
        ∧ (x.state = .active → n < x.compare →
            exec (.laneMeterPulse l) s = .next (s.setLane l { x with counter := n, noFlow := 0, noFlowDue := false }))
        ∧ (x.state = .active → x.compare ≤ n →
            exec (.laneMeterPulse l) s = .next (closed { x with counter := n } .complete))
        ∧ exec (.noFlowExpiry l) s
            = .next (if x.state = .active ∧ x.noFlowDue = true then closed x .noFlow else s)
        ∧ exec (.armDrop l) s
            = .next (if x.state = .active then closed { x with arm := false } .armLost else s.setLane l { x with arm := false })
        ∧ exec (.armRise l) s = .next (s.setLane l { x with arm := true })
        ∧ ∀ (r : Request) (k : Byte), Asked s .stopFill r → r.payload = [k] →
            (NamesNone 2 k → exec (.stopFill r) s = .next (s.answered .stopFill r .badArg []))
              ∧ (Names k l → x.state ≠ .active → exec (.stopFill r) s = .next (s.answered .stopFill r .wrongState []))
              ∧ (Names k l → x.state = .active →
                  exec (.stopFill r) s
                    = .next
                        ((s.answered .stopFill r .ok []).setLane l
                          { x with
                            state := .settling, capture := x.counter, cause := some .stopped, noFlow := 0
                            noFlowDue := false, settle := 0, settleTime := s.setting .settleTime })))
    ∧ (∀ (l : Lane) (s : State), s.resetPin = false →
        let x := s.lane l
        (x.state ≠ .settling ∨ x.settle < x.settleTime → exec (.settleExpiry l) s = .next s)
          ∧ ∀ (c : FillContext) (o : FillOutcome), x.state = .settling → x.settleTime ≤ x.settle → x.context = some c →
              x.cause = some o → (s.comp c.comp).state = .filling →
                let rest :=
                  s.setLane l
                    { x with
                      state := .idle, context := none, cause := none, lastOutcome := some o, settle := 0, settleTime := 0 }
                (x.counter = 0 →
                    exec (.settleExpiry l) s
                      = .next
                          (raiseNotice fillPort 1 (l.val + 1)
                            (rest.setComp c.comp { s.comp c.comp with state := .cleared })))
                  ∧ (0 < x.counter →
                    exec (.settleExpiry l) s
                      = .next
                          (raiseNotice fillPort 1 (l.val + 1)
                            (raiseNotice officePort 4 (c.comp.val + 1)
                              (rest.setComp c.comp
                                { s.comp c.comp with
                                  state := .filled
                                  fill :=
                                    some
                                      { lane := l, product := c.product, authorized := c.volume, metered := x.counter,
                                        outcome := o } })))))

/-! ## Laws -/

/-- Whatever a step does keeps the laws of the yard's bookkeeping: settings in their ranges, the departure queue within 32, the tokens
within their allowances, the clock within its counts, counters that stop, notices in order, lists that name no record twice, and a
priority order of all eight channels. -/
def Obligations.StepKeepsBookkeeping : Prop :=
  ∀ s t : State, step s = .next t →
    SettingsInRange s → DeparturesFit s → TokensWithin s → ClockInRange s → CountersStop s → NoticesOrdered s →
    ListsDistinct s → PriorityComplete s →
      SettingsInRange t ∧ DeparturesFit t ∧ TokensWithin t ∧ ClockInRange t ∧ CountersStop t ∧ NoticesOrdered t
        ∧ ListsDistinct t ∧ PriorityComplete t

/-- Whatever a step does, the units held in grants never exceed the capacity of any of the three plant resources, and the HOT capacity
stays 1..8. -/
def Obligations.StepKeepsGrantsWithinCapacity : Prop :=
  ∀ s t : State, step s = .next t → GrantsWithin s → GrantsWithin t

/-- Whatever a step does, recipe slots and the staging buffer stay as R40, R41 and R45 give them, and every matrix cell that holds a slot
number names a DEFINED slot. -/
def Obligations.StepKeepsConfigurationSound : Prop :=
  ∀ s t : State, step s = .next t → ConfigurationSound s → ConfigurationSound t

/-- Whatever a step does, every record carries the fields that its state gives it: a certificate exactly in CLEARED, FILLING and FILLED, a
binding exactly in WASHING, a hold reason exactly in HELD. -/
def Obligations.StepKeepsRecordsSound : Prop :=
  ∀ s t : State, step s = .next t → RecordsSound s → RecordsSound t

/-- Whatever a step does, each FILLING record is served by exactly one lane, and a lane serves exactly while it is ACTIVE or SETTLING. -/
def Obligations.StepKeepsLanesServing : Prop :=
  ∀ s t : State, step s = .next t → LanesServe s → LanesServe t

/-- Whatever a step does, a record is INSPECTING exactly when one probe line is bound to it, and a line is bound exactly in a session with
its inspection context. -/
def Obligations.StepKeepsLinesServing : Prop :=
  ∀ s t : State, step s = .next t → LinesServe s → LinesServe t
end

