-- ==== Sys2Proof/Laws/State.lean ====
section
/-! SUPPORT. What each update of the state leaves in each field and in each reading: one lemma per field per update, and one per
reading per update, so that no proof unfolds a record update. -/

namespace Sys2Proof.Machine

open Sys2Proof (Byte Comp Tanker Bay Chan RecipeSlot CargoClass Line Lane Port)

/-! ## Entries of a table -/

theorem put_get_self {α : Type} {n : Nat} (v : Vector α n) (i : Fin n) (x : α) : (put v i x)[i] = x := by
  simp [put]

@[simp] theorem put_get_val_self {α : Type} {n : Nat} (v : Vector α n) (i : Fin n) (x : α) : (put v i x)[i.val] = x := by
  simp [put]

theorem put_get_ne {α : Type} {n : Nat} (v : Vector α n) {i j : Fin n} (x : α) (h : j ≠ i) : (put v i x)[j] = v[j] := by
  have hne : i.val ≠ j.val := fun e => h (Fin.ext e.symm)
  simp [put, hne]

theorem put_get {α : Type} {n : Nat} (v : Vector α n) (i j : Fin n) (x : α) :
    (put v i x)[j] = if j = i then x else v[j] := by
  split
  · next h => subst h; exact put_get_self v j x
  · next h => exact put_get_ne v x h

@[simp] theorem put_put_self {α : Type} {n : Nat} (v : Vector α n) (i : Fin n) (x y : α) :
    put (put v i x) i y = put v i y := by
  simp [put, Vector.set_set]

@[simp] theorem put_eq_self {α : Type} {n : Nat} (v : Vector α n) (i : Fin n) : put v i v[i] = v := by
  simp [put]

namespace State

/-! ## setComp -/

@[simp] theorem comps_setComp (s : State) (i : Comp) (x : CompartmentRecord) : (s.setComp i x).comps = put s.comps i x := rfl
@[simp] theorem tankers_setComp (s : State) (i : Comp) (x : CompartmentRecord) : (s.setComp i x).tankers = s.tankers := rfl
@[simp] theorem certCounter_setComp (s : State) (i : Comp) (x : CompartmentRecord) : (s.setComp i x).certCounter = s.certCounter := rfl
@[simp] theorem departures_setComp (s : State) (i : Comp) (x : CompartmentRecord) : (s.setComp i x).departures = s.departures := rfl
@[simp] theorem matrix_setComp (s : State) (i : Comp) (x : CompartmentRecord) : (s.setComp i x).matrix = s.matrix := rfl
@[simp] theorem limits_setComp (s : State) (i : Comp) (x : CompartmentRecord) : (s.setComp i x).limits = s.limits := rfl
@[simp] theorem recipes_setComp (s : State) (i : Comp) (x : CompartmentRecord) : (s.setComp i x).recipes = s.recipes := rfl
@[simp] theorem staging_setComp (s : State) (i : Comp) (x : CompartmentRecord) : (s.setComp i x).staging = s.staging := rfl
@[simp] theorem settings_setComp (s : State) (i : Comp) (x : CompartmentRecord) : (s.setComp i x).settings = s.settings := rfl
@[simp] theorem yardOpen_setComp (s : State) (i : Comp) (x : CompartmentRecord) : (s.setComp i x).yardOpen = s.yardOpen := rfl
@[simp] theorem bays_setComp (s : State) (i : Comp) (x : CompartmentRecord) : (s.setComp i x).bays = s.bays := rfl
@[simp] theorem channels_setComp (s : State) (i : Comp) (x : CompartmentRecord) : (s.setComp i x).channels = s.channels := rfl
@[simp] theorem permit_setComp (s : State) (i : Comp) (x : CompartmentRecord) : (s.setComp i x).permit = s.permit := rfl
@[simp] theorem plant_setComp (s : State) (i : Comp) (x : CompartmentRecord) : (s.setComp i x).plant = s.plant := rfl
@[simp] theorem lines_setComp (s : State) (i : Comp) (x : CompartmentRecord) : (s.setComp i x).lines = s.lines := rfl
@[simp] theorem inspections_setComp (s : State) (i : Comp) (x : CompartmentRecord) : (s.setComp i x).inspections = s.inspections := rfl
@[simp] theorem clock_setComp (s : State) (i : Comp) (x : CompartmentRecord) : (s.setComp i x).clock = s.clock := rfl
@[simp] theorem lanes_setComp (s : State) (i : Comp) (x : CompartmentRecord) : (s.setComp i x).lanes = s.lanes := rfl
@[simp] theorem ports_setComp (s : State) (i : Comp) (x : CompartmentRecord) : (s.setComp i x).ports = s.ports := rfl
@[simp] theorem portRate_setComp (s : State) (i : Comp) (x : CompartmentRecord) : (s.setComp i x).portRate = s.portRate := rfl
@[simp] theorem resetPin_setComp (s : State) (i : Comp) (x : CompartmentRecord) : (s.setComp i x).resetPin = s.resetPin := rfl
@[simp] theorem pending_setComp (s : State) (i : Comp) (x : CompartmentRecord) : (s.setComp i x).pending = s.pending := rfl

/-! ## setTanker -/

@[simp] theorem comps_setTanker (s : State) (i : Tanker) (x : TankerEntry) : (s.setTanker i x).comps = s.comps := rfl
@[simp] theorem tankers_setTanker (s : State) (i : Tanker) (x : TankerEntry) : (s.setTanker i x).tankers = put s.tankers i x := rfl
@[simp] theorem certCounter_setTanker (s : State) (i : Tanker) (x : TankerEntry) : (s.setTanker i x).certCounter = s.certCounter := rfl
@[simp] theorem departures_setTanker (s : State) (i : Tanker) (x : TankerEntry) : (s.setTanker i x).departures = s.departures := rfl
@[simp] theorem matrix_setTanker (s : State) (i : Tanker) (x : TankerEntry) : (s.setTanker i x).matrix = s.matrix := rfl
@[simp] theorem limits_setTanker (s : State) (i : Tanker) (x : TankerEntry) : (s.setTanker i x).limits = s.limits := rfl
@[simp] theorem recipes_setTanker (s : State) (i : Tanker) (x : TankerEntry) : (s.setTanker i x).recipes = s.recipes := rfl
@[simp] theorem staging_setTanker (s : State) (i : Tanker) (x : TankerEntry) : (s.setTanker i x).staging = s.staging := rfl
@[simp] theorem settings_setTanker (s : State) (i : Tanker) (x : TankerEntry) : (s.setTanker i x).settings = s.settings := rfl
@[simp] theorem yardOpen_setTanker (s : State) (i : Tanker) (x : TankerEntry) : (s.setTanker i x).yardOpen = s.yardOpen := rfl
@[simp] theorem bays_setTanker (s : State) (i : Tanker) (x : TankerEntry) : (s.setTanker i x).bays = s.bays := rfl
@[simp] theorem channels_setTanker (s : State) (i : Tanker) (x : TankerEntry) : (s.setTanker i x).channels = s.channels := rfl
@[simp] theorem permit_setTanker (s : State) (i : Tanker) (x : TankerEntry) : (s.setTanker i x).permit = s.permit := rfl
@[simp] theorem plant_setTanker (s : State) (i : Tanker) (x : TankerEntry) : (s.setTanker i x).plant = s.plant := rfl
@[simp] theorem lines_setTanker (s : State) (i : Tanker) (x : TankerEntry) : (s.setTanker i x).lines = s.lines := rfl
@[simp] theorem inspections_setTanker (s : State) (i : Tanker) (x : TankerEntry) : (s.setTanker i x).inspections = s.inspections := rfl
@[simp] theorem clock_setTanker (s : State) (i : Tanker) (x : TankerEntry) : (s.setTanker i x).clock = s.clock := rfl
@[simp] theorem lanes_setTanker (s : State) (i : Tanker) (x : TankerEntry) : (s.setTanker i x).lanes = s.lanes := rfl
@[simp] theorem ports_setTanker (s : State) (i : Tanker) (x : TankerEntry) : (s.setTanker i x).ports = s.ports := rfl
@[simp] theorem portRate_setTanker (s : State) (i : Tanker) (x : TankerEntry) : (s.setTanker i x).portRate = s.portRate := rfl
@[simp] theorem resetPin_setTanker (s : State) (i : Tanker) (x : TankerEntry) : (s.setTanker i x).resetPin = s.resetPin := rfl
@[simp] theorem pending_setTanker (s : State) (i : Tanker) (x : TankerEntry) : (s.setTanker i x).pending = s.pending := rfl

/-! ## setBay -/

@[simp] theorem comps_setBay (s : State) (i : Bay) (x : BayState) : (s.setBay i x).comps = s.comps := rfl
@[simp] theorem tankers_setBay (s : State) (i : Bay) (x : BayState) : (s.setBay i x).tankers = s.tankers := rfl
@[simp] theorem certCounter_setBay (s : State) (i : Bay) (x : BayState) : (s.setBay i x).certCounter = s.certCounter := rfl
@[simp] theorem departures_setBay (s : State) (i : Bay) (x : BayState) : (s.setBay i x).departures = s.departures := rfl
@[simp] theorem matrix_setBay (s : State) (i : Bay) (x : BayState) : (s.setBay i x).matrix = s.matrix := rfl
@[simp] theorem limits_setBay (s : State) (i : Bay) (x : BayState) : (s.setBay i x).limits = s.limits := rfl
@[simp] theorem recipes_setBay (s : State) (i : Bay) (x : BayState) : (s.setBay i x).recipes = s.recipes := rfl
@[simp] theorem staging_setBay (s : State) (i : Bay) (x : BayState) : (s.setBay i x).staging = s.staging := rfl
@[simp] theorem settings_setBay (s : State) (i : Bay) (x : BayState) : (s.setBay i x).settings = s.settings := rfl
@[simp] theorem yardOpen_setBay (s : State) (i : Bay) (x : BayState) : (s.setBay i x).yardOpen = s.yardOpen := rfl
@[simp] theorem bays_setBay (s : State) (i : Bay) (x : BayState) : (s.setBay i x).bays = put s.bays i x := rfl
@[simp] theorem channels_setBay (s : State) (i : Bay) (x : BayState) : (s.setBay i x).channels = s.channels := rfl
@[simp] theorem permit_setBay (s : State) (i : Bay) (x : BayState) : (s.setBay i x).permit = s.permit := rfl
@[simp] theorem plant_setBay (s : State) (i : Bay) (x : BayState) : (s.setBay i x).plant = s.plant := rfl
@[simp] theorem lines_setBay (s : State) (i : Bay) (x : BayState) : (s.setBay i x).lines = s.lines := rfl
@[simp] theorem inspections_setBay (s : State) (i : Bay) (x : BayState) : (s.setBay i x).inspections = s.inspections := rfl
@[simp] theorem clock_setBay (s : State) (i : Bay) (x : BayState) : (s.setBay i x).clock = s.clock := rfl
@[simp] theorem lanes_setBay (s : State) (i : Bay) (x : BayState) : (s.setBay i x).lanes = s.lanes := rfl
@[simp] theorem ports_setBay (s : State) (i : Bay) (x : BayState) : (s.setBay i x).ports = s.ports := rfl
@[simp] theorem portRate_setBay (s : State) (i : Bay) (x : BayState) : (s.setBay i x).portRate = s.portRate := rfl
@[simp] theorem resetPin_setBay (s : State) (i : Bay) (x : BayState) : (s.setBay i x).resetPin = s.resetPin := rfl
@[simp] theorem pending_setBay (s : State) (i : Bay) (x : BayState) : (s.setBay i x).pending = s.pending := rfl

/-! ## setChan -/

@[simp] theorem comps_setChan (s : State) (i : Chan) (x : WashChannel) : (s.setChan i x).comps = s.comps := rfl
@[simp] theorem tankers_setChan (s : State) (i : Chan) (x : WashChannel) : (s.setChan i x).tankers = s.tankers := rfl
@[simp] theorem certCounter_setChan (s : State) (i : Chan) (x : WashChannel) : (s.setChan i x).certCounter = s.certCounter := rfl
@[simp] theorem departures_setChan (s : State) (i : Chan) (x : WashChannel) : (s.setChan i x).departures = s.departures := rfl
@[simp] theorem matrix_setChan (s : State) (i : Chan) (x : WashChannel) : (s.setChan i x).matrix = s.matrix := rfl
@[simp] theorem limits_setChan (s : State) (i : Chan) (x : WashChannel) : (s.setChan i x).limits = s.limits := rfl
@[simp] theorem recipes_setChan (s : State) (i : Chan) (x : WashChannel) : (s.setChan i x).recipes = s.recipes := rfl
@[simp] theorem staging_setChan (s : State) (i : Chan) (x : WashChannel) : (s.setChan i x).staging = s.staging := rfl
@[simp] theorem settings_setChan (s : State) (i : Chan) (x : WashChannel) : (s.setChan i x).settings = s.settings := rfl
@[simp] theorem yardOpen_setChan (s : State) (i : Chan) (x : WashChannel) : (s.setChan i x).yardOpen = s.yardOpen := rfl
@[simp] theorem bays_setChan (s : State) (i : Chan) (x : WashChannel) : (s.setChan i x).bays = s.bays := rfl
@[simp] theorem channels_setChan (s : State) (i : Chan) (x : WashChannel) : (s.setChan i x).channels = put s.channels i x := rfl
@[simp] theorem permit_setChan (s : State) (i : Chan) (x : WashChannel) : (s.setChan i x).permit = s.permit := rfl
@[simp] theorem plant_setChan (s : State) (i : Chan) (x : WashChannel) : (s.setChan i x).plant = s.plant := rfl
@[simp] theorem lines_setChan (s : State) (i : Chan) (x : WashChannel) : (s.setChan i x).lines = s.lines := rfl
@[simp] theorem inspections_setChan (s : State) (i : Chan) (x : WashChannel) : (s.setChan i x).inspections = s.inspections := rfl
@[simp] theorem clock_setChan (s : State) (i : Chan) (x : WashChannel) : (s.setChan i x).clock = s.clock := rfl
@[simp] theorem lanes_setChan (s : State) (i : Chan) (x : WashChannel) : (s.setChan i x).lanes = s.lanes := rfl
@[simp] theorem ports_setChan (s : State) (i : Chan) (x : WashChannel) : (s.setChan i x).ports = s.ports := rfl
@[simp] theorem portRate_setChan (s : State) (i : Chan) (x : WashChannel) : (s.setChan i x).portRate = s.portRate := rfl
@[simp] theorem resetPin_setChan (s : State) (i : Chan) (x : WashChannel) : (s.setChan i x).resetPin = s.resetPin := rfl
@[simp] theorem pending_setChan (s : State) (i : Chan) (x : WashChannel) : (s.setChan i x).pending = s.pending := rfl

/-! ## setLine -/

@[simp] theorem comps_setLine (s : State) (i : Line) (x : ProbeLine) : (s.setLine i x).comps = s.comps := rfl
@[simp] theorem tankers_setLine (s : State) (i : Line) (x : ProbeLine) : (s.setLine i x).tankers = s.tankers := rfl
@[simp] theorem certCounter_setLine (s : State) (i : Line) (x : ProbeLine) : (s.setLine i x).certCounter = s.certCounter := rfl
@[simp] theorem departures_setLine (s : State) (i : Line) (x : ProbeLine) : (s.setLine i x).departures = s.departures := rfl
@[simp] theorem matrix_setLine (s : State) (i : Line) (x : ProbeLine) : (s.setLine i x).matrix = s.matrix := rfl
@[simp] theorem limits_setLine (s : State) (i : Line) (x : ProbeLine) : (s.setLine i x).limits = s.limits := rfl
@[simp] theorem recipes_setLine (s : State) (i : Line) (x : ProbeLine) : (s.setLine i x).recipes = s.recipes := rfl
@[simp] theorem staging_setLine (s : State) (i : Line) (x : ProbeLine) : (s.setLine i x).staging = s.staging := rfl
@[simp] theorem settings_setLine (s : State) (i : Line) (x : ProbeLine) : (s.setLine i x).settings = s.settings := rfl
@[simp] theorem yardOpen_setLine (s : State) (i : Line) (x : ProbeLine) : (s.setLine i x).yardOpen = s.yardOpen := rfl
@[simp] theorem bays_setLine (s : State) (i : Line) (x : ProbeLine) : (s.setLine i x).bays = s.bays := rfl
@[simp] theorem channels_setLine (s : State) (i : Line) (x : ProbeLine) : (s.setLine i x).channels = s.channels := rfl
@[simp] theorem permit_setLine (s : State) (i : Line) (x : ProbeLine) : (s.setLine i x).permit = s.permit := rfl
@[simp] theorem plant_setLine (s : State) (i : Line) (x : ProbeLine) : (s.setLine i x).plant = s.plant := rfl
@[simp] theorem lines_setLine (s : State) (i : Line) (x : ProbeLine) : (s.setLine i x).lines = put s.lines i x := rfl
@[simp] theorem inspections_setLine (s : State) (i : Line) (x : ProbeLine) : (s.setLine i x).inspections = s.inspections := rfl
@[simp] theorem clock_setLine (s : State) (i : Line) (x : ProbeLine) : (s.setLine i x).clock = s.clock := rfl
@[simp] theorem lanes_setLine (s : State) (i : Line) (x : ProbeLine) : (s.setLine i x).lanes = s.lanes := rfl
@[simp] theorem ports_setLine (s : State) (i : Line) (x : ProbeLine) : (s.setLine i x).ports = s.ports := rfl
@[simp] theorem portRate_setLine (s : State) (i : Line) (x : ProbeLine) : (s.setLine i x).portRate = s.portRate := rfl
@[simp] theorem resetPin_setLine (s : State) (i : Line) (x : ProbeLine) : (s.setLine i x).resetPin = s.resetPin := rfl
@[simp] theorem pending_setLine (s : State) (i : Line) (x : ProbeLine) : (s.setLine i x).pending = s.pending := rfl

/-! ## setInspection -/

@[simp] theorem comps_setInspection (s : State) (i : Line) (x : Option Inspection) : (s.setInspection i x).comps = s.comps := rfl
@[simp] theorem tankers_setInspection (s : State) (i : Line) (x : Option Inspection) : (s.setInspection i x).tankers = s.tankers := rfl
@[simp] theorem certCounter_setInspection (s : State) (i : Line) (x : Option Inspection) : (s.setInspection i x).certCounter = s.certCounter := rfl
@[simp] theorem departures_setInspection (s : State) (i : Line) (x : Option Inspection) : (s.setInspection i x).departures = s.departures := rfl
@[simp] theorem matrix_setInspection (s : State) (i : Line) (x : Option Inspection) : (s.setInspection i x).matrix = s.matrix := rfl
@[simp] theorem limits_setInspection (s : State) (i : Line) (x : Option Inspection) : (s.setInspection i x).limits = s.limits := rfl
@[simp] theorem recipes_setInspection (s : State) (i : Line) (x : Option Inspection) : (s.setInspection i x).recipes = s.recipes := rfl
@[simp] theorem staging_setInspection (s : State) (i : Line) (x : Option Inspection) : (s.setInspection i x).staging = s.staging := rfl
@[simp] theorem settings_setInspection (s : State) (i : Line) (x : Option Inspection) : (s.setInspection i x).settings = s.settings := rfl
@[simp] theorem yardOpen_setInspection (s : State) (i : Line) (x : Option Inspection) : (s.setInspection i x).yardOpen = s.yardOpen := rfl
@[simp] theorem bays_setInspection (s : State) (i : Line) (x : Option Inspection) : (s.setInspection i x).bays = s.bays := rfl
@[simp] theorem channels_setInspection (s : State) (i : Line) (x : Option Inspection) : (s.setInspection i x).channels = s.channels := rfl
@[simp] theorem permit_setInspection (s : State) (i : Line) (x : Option Inspection) : (s.setInspection i x).permit = s.permit := rfl
@[simp] theorem plant_setInspection (s : State) (i : Line) (x : Option Inspection) : (s.setInspection i x).plant = s.plant := rfl
@[simp] theorem lines_setInspection (s : State) (i : Line) (x : Option Inspection) : (s.setInspection i x).lines = s.lines := rfl
@[simp] theorem inspections_setInspection (s : State) (i : Line) (x : Option Inspection) : (s.setInspection i x).inspections = put s.inspections i x := rfl
@[simp] theorem clock_setInspection (s : State) (i : Line) (x : Option Inspection) : (s.setInspection i x).clock = s.clock := rfl
@[simp] theorem lanes_setInspection (s : State) (i : Line) (x : Option Inspection) : (s.setInspection i x).lanes = s.lanes := rfl
@[simp] theorem ports_setInspection (s : State) (i : Line) (x : Option Inspection) : (s.setInspection i x).ports = s.ports := rfl
@[simp] theorem portRate_setInspection (s : State) (i : Line) (x : Option Inspection) : (s.setInspection i x).portRate = s.portRate := rfl
@[simp] theorem resetPin_setInspection (s : State) (i : Line) (x : Option Inspection) : (s.setInspection i x).resetPin = s.resetPin := rfl
@[simp] theorem pending_setInspection (s : State) (i : Line) (x : Option Inspection) : (s.setInspection i x).pending = s.pending := rfl

/-! ## setLane -/

@[simp] theorem comps_setLane (s : State) (i : Lane) (x : FillLane) : (s.setLane i x).comps = s.comps := rfl
@[simp] theorem tankers_setLane (s : State) (i : Lane) (x : FillLane) : (s.setLane i x).tankers = s.tankers := rfl
@[simp] theorem certCounter_setLane (s : State) (i : Lane) (x : FillLane) : (s.setLane i x).certCounter = s.certCounter := rfl
@[simp] theorem departures_setLane (s : State) (i : Lane) (x : FillLane) : (s.setLane i x).departures = s.departures := rfl
@[simp] theorem matrix_setLane (s : State) (i : Lane) (x : FillLane) : (s.setLane i x).matrix = s.matrix := rfl
@[simp] theorem limits_setLane (s : State) (i : Lane) (x : FillLane) : (s.setLane i x).limits = s.limits := rfl
@[simp] theorem recipes_setLane (s : State) (i : Lane) (x : FillLane) : (s.setLane i x).recipes = s.recipes := rfl
@[simp] theorem staging_setLane (s : State) (i : Lane) (x : FillLane) : (s.setLane i x).staging = s.staging := rfl
@[simp] theorem settings_setLane (s : State) (i : Lane) (x : FillLane) : (s.setLane i x).settings = s.settings := rfl
@[simp] theorem yardOpen_setLane (s : State) (i : Lane) (x : FillLane) : (s.setLane i x).yardOpen = s.yardOpen := rfl
@[simp] theorem bays_setLane (s : State) (i : Lane) (x : FillLane) : (s.setLane i x).bays = s.bays := rfl
@[simp] theorem channels_setLane (s : State) (i : Lane) (x : FillLane) : (s.setLane i x).channels = s.channels := rfl
@[simp] theorem permit_setLane (s : State) (i : Lane) (x : FillLane) : (s.setLane i x).permit = s.permit := rfl
@[simp] theorem plant_setLane (s : State) (i : Lane) (x : FillLane) : (s.setLane i x).plant = s.plant := rfl
@[simp] theorem lines_setLane (s : State) (i : Lane) (x : FillLane) : (s.setLane i x).lines = s.lines := rfl
@[simp] theorem inspections_setLane (s : State) (i : Lane) (x : FillLane) : (s.setLane i x).inspections = s.inspections := rfl
@[simp] theorem clock_setLane (s : State) (i : Lane) (x : FillLane) : (s.setLane i x).clock = s.clock := rfl
@[simp] theorem lanes_setLane (s : State) (i : Lane) (x : FillLane) : (s.setLane i x).lanes = put s.lanes i x := rfl
@[simp] theorem ports_setLane (s : State) (i : Lane) (x : FillLane) : (s.setLane i x).ports = s.ports := rfl
@[simp] theorem portRate_setLane (s : State) (i : Lane) (x : FillLane) : (s.setLane i x).portRate = s.portRate := rfl
@[simp] theorem resetPin_setLane (s : State) (i : Lane) (x : FillLane) : (s.setLane i x).resetPin = s.resetPin := rfl
@[simp] theorem pending_setLane (s : State) (i : Lane) (x : FillLane) : (s.setLane i x).pending = s.pending := rfl

/-! ## setPort -/

@[simp] theorem comps_setPort (s : State) (i : Port) (x : StationPort) : (s.setPort i x).comps = s.comps := rfl
@[simp] theorem tankers_setPort (s : State) (i : Port) (x : StationPort) : (s.setPort i x).tankers = s.tankers := rfl
@[simp] theorem certCounter_setPort (s : State) (i : Port) (x : StationPort) : (s.setPort i x).certCounter = s.certCounter := rfl
@[simp] theorem departures_setPort (s : State) (i : Port) (x : StationPort) : (s.setPort i x).departures = s.departures := rfl
@[simp] theorem matrix_setPort (s : State) (i : Port) (x : StationPort) : (s.setPort i x).matrix = s.matrix := rfl
@[simp] theorem limits_setPort (s : State) (i : Port) (x : StationPort) : (s.setPort i x).limits = s.limits := rfl
@[simp] theorem recipes_setPort (s : State) (i : Port) (x : StationPort) : (s.setPort i x).recipes = s.recipes := rfl
@[simp] theorem staging_setPort (s : State) (i : Port) (x : StationPort) : (s.setPort i x).staging = s.staging := rfl
@[simp] theorem settings_setPort (s : State) (i : Port) (x : StationPort) : (s.setPort i x).settings = s.settings := rfl
@[simp] theorem yardOpen_setPort (s : State) (i : Port) (x : StationPort) : (s.setPort i x).yardOpen = s.yardOpen := rfl
@[simp] theorem bays_setPort (s : State) (i : Port) (x : StationPort) : (s.setPort i x).bays = s.bays := rfl
@[simp] theorem channels_setPort (s : State) (i : Port) (x : StationPort) : (s.setPort i x).channels = s.channels := rfl
@[simp] theorem permit_setPort (s : State) (i : Port) (x : StationPort) : (s.setPort i x).permit = s.permit := rfl
@[simp] theorem plant_setPort (s : State) (i : Port) (x : StationPort) : (s.setPort i x).plant = s.plant := rfl
@[simp] theorem lines_setPort (s : State) (i : Port) (x : StationPort) : (s.setPort i x).lines = s.lines := rfl
@[simp] theorem inspections_setPort (s : State) (i : Port) (x : StationPort) : (s.setPort i x).inspections = s.inspections := rfl
@[simp] theorem clock_setPort (s : State) (i : Port) (x : StationPort) : (s.setPort i x).clock = s.clock := rfl
@[simp] theorem lanes_setPort (s : State) (i : Port) (x : StationPort) : (s.setPort i x).lanes = s.lanes := rfl
@[simp] theorem ports_setPort (s : State) (i : Port) (x : StationPort) : (s.setPort i x).ports = put s.ports i x := rfl
@[simp] theorem portRate_setPort (s : State) (i : Port) (x : StationPort) : (s.setPort i x).portRate = s.portRate := rfl
@[simp] theorem resetPin_setPort (s : State) (i : Port) (x : StationPort) : (s.setPort i x).resetPin = s.resetPin := rfl
@[simp] theorem pending_setPort (s : State) (i : Port) (x : StationPort) : (s.setPort i x).pending = s.pending := rfl

/-! ## setPlant -/

@[simp] theorem comps_setPlant (s : State) (x : Plant) : (s.setPlant x).comps = s.comps := rfl
@[simp] theorem tankers_setPlant (s : State) (x : Plant) : (s.setPlant x).tankers = s.tankers := rfl
@[simp] theorem certCounter_setPlant (s : State) (x : Plant) : (s.setPlant x).certCounter = s.certCounter := rfl
@[simp] theorem departures_setPlant (s : State) (x : Plant) : (s.setPlant x).departures = s.departures := rfl
@[simp] theorem matrix_setPlant (s : State) (x : Plant) : (s.setPlant x).matrix = s.matrix := rfl
@[simp] theorem limits_setPlant (s : State) (x : Plant) : (s.setPlant x).limits = s.limits := rfl
@[simp] theorem recipes_setPlant (s : State) (x : Plant) : (s.setPlant x).recipes = s.recipes := rfl
@[simp] theorem staging_setPlant (s : State) (x : Plant) : (s.setPlant x).staging = s.staging := rfl
@[simp] theorem settings_setPlant (s : State) (x : Plant) : (s.setPlant x).settings = s.settings := rfl
@[simp] theorem yardOpen_setPlant (s : State) (x : Plant) : (s.setPlant x).yardOpen = s.yardOpen := rfl
@[simp] theorem bays_setPlant (s : State) (x : Plant) : (s.setPlant x).bays = s.bays := rfl
@[simp] theorem channels_setPlant (s : State) (x : Plant) : (s.setPlant x).channels = s.channels := rfl
@[simp] theorem permit_setPlant (s : State) (x : Plant) : (s.setPlant x).permit = s.permit := rfl
@[simp] theorem plant_setPlant (s : State) (x : Plant) : (s.setPlant x).plant = x := rfl
@[simp] theorem lines_setPlant (s : State) (x : Plant) : (s.setPlant x).lines = s.lines := rfl
@[simp] theorem inspections_setPlant (s : State) (x : Plant) : (s.setPlant x).inspections = s.inspections := rfl
@[simp] theorem clock_setPlant (s : State) (x : Plant) : (s.setPlant x).clock = s.clock := rfl
@[simp] theorem lanes_setPlant (s : State) (x : Plant) : (s.setPlant x).lanes = s.lanes := rfl
@[simp] theorem ports_setPlant (s : State) (x : Plant) : (s.setPlant x).ports = s.ports := rfl
@[simp] theorem portRate_setPlant (s : State) (x : Plant) : (s.setPlant x).portRate = s.portRate := rfl
@[simp] theorem resetPin_setPlant (s : State) (x : Plant) : (s.setPlant x).resetPin = s.resetPin := rfl
@[simp] theorem pending_setPlant (s : State) (x : Plant) : (s.setPlant x).pending = s.pending := rfl

/-! ## Readings after updates -/

@[simp] theorem comp_setComp_self (s : State) (i : Comp) (x : CompartmentRecord) : (s.setComp i x).comp i = x := put_get_self ..
theorem comp_setComp_ne (s : State) {i j : Comp} (x : CompartmentRecord) (h : j ≠ i) : (s.setComp i x).comp j = s.comp j :=
  put_get_ne _ x h
theorem comp_setComp (s : State) (i j : Comp) (x : CompartmentRecord) : (s.setComp i x).comp j = if j = i then x else s.comp j :=
  put_get ..
@[simp] theorem tanker_setComp (s : State) (i : Comp) (x : CompartmentRecord) (j : Tanker) : (s.setComp i x).tanker j = s.tanker j := rfl
@[simp] theorem bay_setComp (s : State) (i : Comp) (x : CompartmentRecord) (j : Bay) : (s.setComp i x).bay j = s.bay j := rfl
@[simp] theorem chan_setComp (s : State) (i : Comp) (x : CompartmentRecord) (j : Chan) : (s.setComp i x).chan j = s.chan j := rfl
@[simp] theorem line_setComp (s : State) (i : Comp) (x : CompartmentRecord) (j : Line) : (s.setComp i x).line j = s.line j := rfl
@[simp] theorem inspection_setComp (s : State) (i : Comp) (x : CompartmentRecord) (j : Line) : (s.setComp i x).inspection j = s.inspection j := rfl
@[simp] theorem lane_setComp (s : State) (i : Comp) (x : CompartmentRecord) (j : Lane) : (s.setComp i x).lane j = s.lane j := rfl
@[simp] theorem port_setComp (s : State) (i : Comp) (x : CompartmentRecord) (j : Port) : (s.setComp i x).port j = s.port j := rfl
@[simp] theorem comp_setTanker (s : State) (i : Tanker) (x : TankerEntry) (j : Comp) : (s.setTanker i x).comp j = s.comp j := rfl
@[simp] theorem tanker_setTanker_self (s : State) (i : Tanker) (x : TankerEntry) : (s.setTanker i x).tanker i = x := put_get_self ..
theorem tanker_setTanker_ne (s : State) {i j : Tanker} (x : TankerEntry) (h : j ≠ i) : (s.setTanker i x).tanker j = s.tanker j :=
  put_get_ne _ x h
theorem tanker_setTanker (s : State) (i j : Tanker) (x : TankerEntry) : (s.setTanker i x).tanker j = if j = i then x else s.tanker j :=
  put_get ..
@[simp] theorem bay_setTanker (s : State) (i : Tanker) (x : TankerEntry) (j : Bay) : (s.setTanker i x).bay j = s.bay j := rfl
@[simp] theorem chan_setTanker (s : State) (i : Tanker) (x : TankerEntry) (j : Chan) : (s.setTanker i x).chan j = s.chan j := rfl
@[simp] theorem line_setTanker (s : State) (i : Tanker) (x : TankerEntry) (j : Line) : (s.setTanker i x).line j = s.line j := rfl
@[simp] theorem inspection_setTanker (s : State) (i : Tanker) (x : TankerEntry) (j : Line) : (s.setTanker i x).inspection j = s.inspection j := rfl
@[simp] theorem lane_setTanker (s : State) (i : Tanker) (x : TankerEntry) (j : Lane) : (s.setTanker i x).lane j = s.lane j := rfl
@[simp] theorem port_setTanker (s : State) (i : Tanker) (x : TankerEntry) (j : Port) : (s.setTanker i x).port j = s.port j := rfl
@[simp] theorem comp_setBay (s : State) (i : Bay) (x : BayState) (j : Comp) : (s.setBay i x).comp j = s.comp j := rfl
@[simp] theorem tanker_setBay (s : State) (i : Bay) (x : BayState) (j : Tanker) : (s.setBay i x).tanker j = s.tanker j := rfl
@[simp] theorem bay_setBay_self (s : State) (i : Bay) (x : BayState) : (s.setBay i x).bay i = x := put_get_self ..
theorem bay_setBay_ne (s : State) {i j : Bay} (x : BayState) (h : j ≠ i) : (s.setBay i x).bay j = s.bay j :=
  put_get_ne _ x h
theorem bay_setBay (s : State) (i j : Bay) (x : BayState) : (s.setBay i x).bay j = if j = i then x else s.bay j :=
  put_get ..
@[simp] theorem chan_setBay (s : State) (i : Bay) (x : BayState) (j : Chan) : (s.setBay i x).chan j = s.chan j := rfl
@[simp] theorem line_setBay (s : State) (i : Bay) (x : BayState) (j : Line) : (s.setBay i x).line j = s.line j := rfl
@[simp] theorem inspection_setBay (s : State) (i : Bay) (x : BayState) (j : Line) : (s.setBay i x).inspection j = s.inspection j := rfl
@[simp] theorem lane_setBay (s : State) (i : Bay) (x : BayState) (j : Lane) : (s.setBay i x).lane j = s.lane j := rfl
@[simp] theorem port_setBay (s : State) (i : Bay) (x : BayState) (j : Port) : (s.setBay i x).port j = s.port j := rfl
@[simp] theorem comp_setChan (s : State) (i : Chan) (x : WashChannel) (j : Comp) : (s.setChan i x).comp j = s.comp j := rfl
@[simp] theorem tanker_setChan (s : State) (i : Chan) (x : WashChannel) (j : Tanker) : (s.setChan i x).tanker j = s.tanker j := rfl
@[simp] theorem bay_setChan (s : State) (i : Chan) (x : WashChannel) (j : Bay) : (s.setChan i x).bay j = s.bay j := rfl
@[simp] theorem chan_setChan_self (s : State) (i : Chan) (x : WashChannel) : (s.setChan i x).chan i = x := put_get_self ..
theorem chan_setChan_ne (s : State) {i j : Chan} (x : WashChannel) (h : j ≠ i) : (s.setChan i x).chan j = s.chan j :=
  put_get_ne _ x h
theorem chan_setChan (s : State) (i j : Chan) (x : WashChannel) : (s.setChan i x).chan j = if j = i then x else s.chan j :=
  put_get ..
@[simp] theorem line_setChan (s : State) (i : Chan) (x : WashChannel) (j : Line) : (s.setChan i x).line j = s.line j := rfl
@[simp] theorem inspection_setChan (s : State) (i : Chan) (x : WashChannel) (j : Line) : (s.setChan i x).inspection j = s.inspection j := rfl
@[simp] theorem lane_setChan (s : State) (i : Chan) (x : WashChannel) (j : Lane) : (s.setChan i x).lane j = s.lane j := rfl
@[simp] theorem port_setChan (s : State) (i : Chan) (x : WashChannel) (j : Port) : (s.setChan i x).port j = s.port j := rfl
@[simp] theorem comp_setLine (s : State) (i : Line) (x : ProbeLine) (j : Comp) : (s.setLine i x).comp j = s.comp j := rfl
@[simp] theorem tanker_setLine (s : State) (i : Line) (x : ProbeLine) (j : Tanker) : (s.setLine i x).tanker j = s.tanker j := rfl
@[simp] theorem bay_setLine (s : State) (i : Line) (x : ProbeLine) (j : Bay) : (s.setLine i x).bay j = s.bay j := rfl
@[simp] theorem chan_setLine (s : State) (i : Line) (x : ProbeLine) (j : Chan) : (s.setLine i x).chan j = s.chan j := rfl
@[simp] theorem line_setLine_self (s : State) (i : Line) (x : ProbeLine) : (s.setLine i x).line i = x := put_get_self ..
theorem line_setLine_ne (s : State) {i j : Line} (x : ProbeLine) (h : j ≠ i) : (s.setLine i x).line j = s.line j :=
  put_get_ne _ x h
theorem line_setLine (s : State) (i j : Line) (x : ProbeLine) : (s.setLine i x).line j = if j = i then x else s.line j :=
  put_get ..
@[simp] theorem inspection_setLine (s : State) (i : Line) (x : ProbeLine) (j : Line) : (s.setLine i x).inspection j = s.inspection j := rfl
@[simp] theorem lane_setLine (s : State) (i : Line) (x : ProbeLine) (j : Lane) : (s.setLine i x).lane j = s.lane j := rfl
@[simp] theorem port_setLine (s : State) (i : Line) (x : ProbeLine) (j : Port) : (s.setLine i x).port j = s.port j := rfl
@[simp] theorem comp_setInspection (s : State) (i : Line) (x : Option Inspection) (j : Comp) : (s.setInspection i x).comp j = s.comp j := rfl
@[simp] theorem tanker_setInspection (s : State) (i : Line) (x : Option Inspection) (j : Tanker) : (s.setInspection i x).tanker j = s.tanker j := rfl
@[simp] theorem bay_setInspection (s : State) (i : Line) (x : Option Inspection) (j : Bay) : (s.setInspection i x).bay j = s.bay j := rfl
@[simp] theorem chan_setInspection (s : State) (i : Line) (x : Option Inspection) (j : Chan) : (s.setInspection i x).chan j = s.chan j := rfl
@[simp] theorem line_setInspection (s : State) (i : Line) (x : Option Inspection) (j : Line) : (s.setInspection i x).line j = s.line j := rfl
@[simp] theorem inspection_setInspection_self (s : State) (i : Line) (x : Option Inspection) : (s.setInspection i x).inspection i = x := put_get_self ..
theorem inspection_setInspection_ne (s : State) {i j : Line} (x : Option Inspection) (h : j ≠ i) : (s.setInspection i x).inspection j = s.inspection j :=
  put_get_ne _ x h
theorem inspection_setInspection (s : State) (i j : Line) (x : Option Inspection) : (s.setInspection i x).inspection j = if j = i then x else s.inspection j :=
  put_get ..
@[simp] theorem lane_setInspection (s : State) (i : Line) (x : Option Inspection) (j : Lane) : (s.setInspection i x).lane j = s.lane j := rfl
@[simp] theorem port_setInspection (s : State) (i : Line) (x : Option Inspection) (j : Port) : (s.setInspection i x).port j = s.port j := rfl
@[simp] theorem comp_setLane (s : State) (i : Lane) (x : FillLane) (j : Comp) : (s.setLane i x).comp j = s.comp j := rfl
@[simp] theorem tanker_setLane (s : State) (i : Lane) (x : FillLane) (j : Tanker) : (s.setLane i x).tanker j = s.tanker j := rfl
@[simp] theorem bay_setLane (s : State) (i : Lane) (x : FillLane) (j : Bay) : (s.setLane i x).bay j = s.bay j := rfl
@[simp] theorem chan_setLane (s : State) (i : Lane) (x : FillLane) (j : Chan) : (s.setLane i x).chan j = s.chan j := rfl
@[simp] theorem line_setLane (s : State) (i : Lane) (x : FillLane) (j : Line) : (s.setLane i x).line j = s.line j := rfl
@[simp] theorem inspection_setLane (s : State) (i : Lane) (x : FillLane) (j : Line) : (s.setLane i x).inspection j = s.inspection j := rfl
@[simp] theorem lane_setLane_self (s : State) (i : Lane) (x : FillLane) : (s.setLane i x).lane i = x := put_get_self ..
theorem lane_setLane_ne (s : State) {i j : Lane} (x : FillLane) (h : j ≠ i) : (s.setLane i x).lane j = s.lane j :=
  put_get_ne _ x h
theorem lane_setLane (s : State) (i j : Lane) (x : FillLane) : (s.setLane i x).lane j = if j = i then x else s.lane j :=
  put_get ..
@[simp] theorem port_setLane (s : State) (i : Lane) (x : FillLane) (j : Port) : (s.setLane i x).port j = s.port j := rfl
@[simp] theorem comp_setPort (s : State) (i : Port) (x : StationPort) (j : Comp) : (s.setPort i x).comp j = s.comp j := rfl
@[simp] theorem tanker_setPort (s : State) (i : Port) (x : StationPort) (j : Tanker) : (s.setPort i x).tanker j = s.tanker j := rfl
@[simp] theorem bay_setPort (s : State) (i : Port) (x : StationPort) (j : Bay) : (s.setPort i x).bay j = s.bay j := rfl
@[simp] theorem chan_setPort (s : State) (i : Port) (x : StationPort) (j : Chan) : (s.setPort i x).chan j = s.chan j := rfl
@[simp] theorem line_setPort (s : State) (i : Port) (x : StationPort) (j : Line) : (s.setPort i x).line j = s.line j := rfl
@[simp] theorem inspection_setPort (s : State) (i : Port) (x : StationPort) (j : Line) : (s.setPort i x).inspection j = s.inspection j := rfl
@[simp] theorem lane_setPort (s : State) (i : Port) (x : StationPort) (j : Lane) : (s.setPort i x).lane j = s.lane j := rfl
@[simp] theorem port_setPort_self (s : State) (i : Port) (x : StationPort) : (s.setPort i x).port i = x := put_get_self ..
theorem port_setPort_ne (s : State) {i j : Port} (x : StationPort) (h : j ≠ i) : (s.setPort i x).port j = s.port j :=
  put_get_ne _ x h
theorem port_setPort (s : State) (i j : Port) (x : StationPort) : (s.setPort i x).port j = if j = i then x else s.port j :=
  put_get ..
@[simp] theorem comp_setPlant (s : State) (x : Plant) (j : Comp) : (s.setPlant x).comp j = s.comp j := rfl
@[simp] theorem tanker_setPlant (s : State) (x : Plant) (j : Tanker) : (s.setPlant x).tanker j = s.tanker j := rfl
@[simp] theorem bay_setPlant (s : State) (x : Plant) (j : Bay) : (s.setPlant x).bay j = s.bay j := rfl
@[simp] theorem chan_setPlant (s : State) (x : Plant) (j : Chan) : (s.setPlant x).chan j = s.chan j := rfl
@[simp] theorem line_setPlant (s : State) (x : Plant) (j : Line) : (s.setPlant x).line j = s.line j := rfl
@[simp] theorem inspection_setPlant (s : State) (x : Plant) (j : Line) : (s.setPlant x).inspection j = s.inspection j := rfl
@[simp] theorem lane_setPlant (s : State) (x : Plant) (j : Lane) : (s.setPlant x).lane j = s.lane j := rfl
@[simp] theorem port_setPlant (s : State) (x : Plant) (j : Port) : (s.setPlant x).port j = s.port j := rfl
@[simp] theorem setting_setComp (s : State) (i : Comp) (x : CompartmentRecord) (y : Setting) : (s.setComp i x).setting y = s.setting y := rfl
@[simp] theorem setting_setTanker (s : State) (i : Tanker) (x : TankerEntry) (y : Setting) : (s.setTanker i x).setting y = s.setting y := rfl
@[simp] theorem setting_setBay (s : State) (i : Bay) (x : BayState) (y : Setting) : (s.setBay i x).setting y = s.setting y := rfl
@[simp] theorem setting_setChan (s : State) (i : Chan) (x : WashChannel) (y : Setting) : (s.setChan i x).setting y = s.setting y := rfl
@[simp] theorem setting_setLine (s : State) (i : Line) (x : ProbeLine) (y : Setting) : (s.setLine i x).setting y = s.setting y := rfl
@[simp] theorem setting_setInspection (s : State) (i : Line) (x : Option Inspection) (y : Setting) : (s.setInspection i x).setting y = s.setting y := rfl
@[simp] theorem setting_setLane (s : State) (i : Lane) (x : FillLane) (y : Setting) : (s.setLane i x).setting y = s.setting y := rfl
@[simp] theorem setting_setPort (s : State) (i : Port) (x : StationPort) (y : Setting) : (s.setPort i x).setting y = s.setting y := rfl
@[simp] theorem setting_setPlant (s : State) (x : Plant) (y : Setting) : (s.setPlant x).setting y = s.setting y := rfl
@[simp] theorem cell_setComp (s : State) (i : Comp) (x : CompartmentRecord) (a b : CargoClass) : (s.setComp i x).cell a b = s.cell a b := rfl
@[simp] theorem cell_setTanker (s : State) (i : Tanker) (x : TankerEntry) (a b : CargoClass) : (s.setTanker i x).cell a b = s.cell a b := rfl
@[simp] theorem cell_setBay (s : State) (i : Bay) (x : BayState) (a b : CargoClass) : (s.setBay i x).cell a b = s.cell a b := rfl
@[simp] theorem cell_setChan (s : State) (i : Chan) (x : WashChannel) (a b : CargoClass) : (s.setChan i x).cell a b = s.cell a b := rfl
@[simp] theorem cell_setLine (s : State) (i : Line) (x : ProbeLine) (a b : CargoClass) : (s.setLine i x).cell a b = s.cell a b := rfl
@[simp] theorem cell_setInspection (s : State) (i : Line) (x : Option Inspection) (a b : CargoClass) : (s.setInspection i x).cell a b = s.cell a b := rfl
@[simp] theorem cell_setLane (s : State) (i : Lane) (x : FillLane) (a b : CargoClass) : (s.setLane i x).cell a b = s.cell a b := rfl
@[simp] theorem cell_setPort (s : State) (i : Port) (x : StationPort) (a b : CargoClass) : (s.setPort i x).cell a b = s.cell a b := rfl
@[simp] theorem cell_setPlant (s : State) (x : Plant) (a b : CargoClass) : (s.setPlant x).cell a b = s.cell a b := rfl
@[simp] theorem recipe_setComp (s : State) (i : Comp) (x : CompartmentRecord) (y : RecipeSlot) : (s.setComp i x).recipe y = s.recipe y := rfl
@[simp] theorem recipe_setTanker (s : State) (i : Tanker) (x : TankerEntry) (y : RecipeSlot) : (s.setTanker i x).recipe y = s.recipe y := rfl
@[simp] theorem recipe_setBay (s : State) (i : Bay) (x : BayState) (y : RecipeSlot) : (s.setBay i x).recipe y = s.recipe y := rfl
@[simp] theorem recipe_setChan (s : State) (i : Chan) (x : WashChannel) (y : RecipeSlot) : (s.setChan i x).recipe y = s.recipe y := rfl
@[simp] theorem recipe_setLine (s : State) (i : Line) (x : ProbeLine) (y : RecipeSlot) : (s.setLine i x).recipe y = s.recipe y := rfl
@[simp] theorem recipe_setInspection (s : State) (i : Line) (x : Option Inspection) (y : RecipeSlot) : (s.setInspection i x).recipe y = s.recipe y := rfl
@[simp] theorem recipe_setLane (s : State) (i : Lane) (x : FillLane) (y : RecipeSlot) : (s.setLane i x).recipe y = s.recipe y := rfl
@[simp] theorem recipe_setPort (s : State) (i : Port) (x : StationPort) (y : RecipeSlot) : (s.setPort i x).recipe y = s.recipe y := rfl
@[simp] theorem recipe_setPlant (s : State) (x : Plant) (y : RecipeSlot) : (s.setPlant x).recipe y = s.recipe y := rfl

/-! ## Changes as replacements -/

@[simp] theorem modComp_eq (s : State) (i : Comp) (f : CompartmentRecord → CompartmentRecord) : s.modComp i f = s.setComp i (f (s.comp i)) := rfl
@[simp] theorem modBay_eq (s : State) (i : Bay) (f : BayState → BayState) : s.modBay i f = s.setBay i (f (s.bay i)) := rfl
@[simp] theorem modChan_eq (s : State) (i : Chan) (f : WashChannel → WashChannel) : s.modChan i f = s.setChan i (f (s.chan i)) := rfl
@[simp] theorem modLine_eq (s : State) (i : Line) (f : ProbeLine → ProbeLine) : s.modLine i f = s.setLine i (f (s.line i)) := rfl
@[simp] theorem modLane_eq (s : State) (i : Lane) (f : FillLane → FillLane) : s.modLane i f = s.setLane i (f (s.lane i)) := rfl
@[simp] theorem modPort_eq (s : State) (i : Port) (f : StationPort → StationPort) : s.modPort i f = s.setPort i (f (s.port i)) := rfl

end State

/-- Raising a notice changes the flags of one port alone (R181). -/
@[simp] theorem raiseNotice_eq (p : Port) (kind subject : Nat) (s : State) :
    raiseNotice p kind subject s = s.setPort p { s.port p with flags := insertNotice ⟨kind, subject⟩ (s.port p).flags } := rfl

end Sys2Proof.Machine
end

