-- ==== Sys2Proof/Laws/Notices.lean ====
section
/-! SUPPORT. The notice flags: setting one keeps their order and adds that flag alone (R181). -/

namespace Sys2Proof.Machine

theorem Notice.before_iff (x y : Notice) :
    x.before y = true ↔ x.kind < y.kind ∨ (x.kind = y.kind ∧ x.subject < y.subject) := by
  simp [Notice.before]

theorem Notice.before_trans {x y z : Notice} (h1 : x.before y = true) (h2 : y.before z = true) :
    x.before z = true := by
  rw [Notice.before_iff] at *; omega

theorem Notice.before_of_not {x y : Notice} (hne : x ≠ y) (h : ¬ x.before y = true) : y.before x = true := by
  rw [Notice.before_iff] at *
  rcases x with ⟨a, b⟩; rcases y with ⟨c, d⟩
  simp only [ne_eq, Notice.mk.injEq, not_and] at hne
  simp only at *
  by_cases hk : a = c
  · have := hne hk; omega
  · omega

/-- A flag stands after the raise exactly when it stood before or is the one raised (R181). -/
theorem mem_insertNotice (n m : Notice) (l : List Notice) : m ∈ insertNotice n l ↔ m = n ∨ m ∈ l := by
  induction l with
  | nil => simp [insertNotice]
  | cons x xs ih =>
    unfold insertNotice
    split
    · next h => subst h; simp
    · split
      · simp
      · simp [ih]; tauto

/-- Raising a flag keeps the flags in the order in which they are fetched, each once (R181, R183). -/
theorem insertNotice_pairwise (n : Notice) {l : List Notice} (h : l.Pairwise fun x y => x.before y = true) :
    (insertNotice n l).Pairwise fun x y => x.before y = true := by
  induction l with
  | nil => simp [insertNotice]
  | cons x xs ih =>
    rw [List.pairwise_cons] at h
    unfold insertNotice
    split
    · exact List.pairwise_cons.2 h
    · next hne =>
      split
      · next hb =>
        refine List.pairwise_cons.2 ⟨?_, List.pairwise_cons.2 h⟩
        intro y hy
        rcases List.mem_cons.1 hy with rfl | hy
        · exact hb
        · exact Notice.before_trans hb (h.1 y hy)
      · next hb =>
        refine List.pairwise_cons.2 ⟨?_, ih h.2⟩
        intro y hy
        rcases (mem_insertNotice ..).1 hy with rfl | hy
        · exact Notice.before_of_not hne hb
        · exact h.1 y hy

end Sys2Proof.Machine
end

