-- ==== Sys2Proof/Laws/Kept.lean ====
section
/-! SUPPORT. What the yard's work keeps: `Kept s t` says that from `s` to `t` the configuration, the clock, the departure queue, the
tokens, the framing state of the ports and the command queue stay as they are, that the flags stay in order, and that the grants stay
within the capacities. One lemma says it for each shared operation. -/

namespace Sys2Proof.Machine

open Sys2Proof (Byte Comp Tanker Bay Chan RecipeSlot CargoClass Line Lane Port)

/-- What no work on records, queues, channels, claims, lines and lanes changes. -/
structure Kept (s t : State) : Prop where
  departures : t.departures = s.departures
  matrix : t.matrix = s.matrix
  limits : t.limits = s.limits
  recipes : t.recipes = s.recipes
  staging : t.staging = s.staging
  settings : t.settings = s.settings
  yardOpen : t.yardOpen = s.yardOpen
  permit : t.permit = s.permit
  clock : t.clock = s.clock
  portRate : t.portRate = s.portRate
  resetPin : t.resetPin = s.resetPin
  pending : t.pending = s.pending
  hotCapacity : t.plant.hotCapacity = s.plant.hotCapacity
  scheme : t.plant.scheme = s.plant.scheme
  tokens : t.plant.tokens = s.plant.tokens
  refreshTimer : t.plant.refreshTimer = s.plant.refreshTimer
  refreshDue : t.plant.refreshDue = s.plant.refreshDue
  ports : ∀ p, t.port p = { s.port p with flags := (t.port p).flags }
  notices : NoticesOrdered s → NoticesOrdered t
  grants : s.plant.granted.fits s.plant.capacity = true → t.plant.granted.fits t.plant.capacity = true

namespace Kept

theorem refl (s : State) : Kept s s := by
  constructor <;> first | rfl | (intro _; rfl) | exact id

theorem trans {s t u : State} (h : Kept s t) (k : Kept t u) : Kept s u where
  departures := k.departures.trans h.departures
  matrix := k.matrix.trans h.matrix
  limits := k.limits.trans h.limits
  recipes := k.recipes.trans h.recipes
  staging := k.staging.trans h.staging
  settings := k.settings.trans h.settings
  yardOpen := k.yardOpen.trans h.yardOpen
  permit := k.permit.trans h.permit
  clock := k.clock.trans h.clock
  portRate := k.portRate.trans h.portRate
  resetPin := k.resetPin.trans h.resetPin
  pending := k.pending.trans h.pending
  hotCapacity := k.hotCapacity.trans h.hotCapacity
  scheme := k.scheme.trans h.scheme
  tokens := k.tokens.trans h.tokens
  refreshTimer := k.refreshTimer.trans h.refreshTimer
  refreshDue := k.refreshDue.trans h.refreshDue
  ports := fun p => by rw [k.ports p, h.ports p]
  notices := fun x => k.notices (h.notices x)
  grants := fun x => k.grants (h.grants x)

/-- An update that leaves the kept fields, the ports and the arbiter as they are. -/
theorem of_fields {s t : State} (f : State → State)
    (hf : ∀ u, (f u).departures = u.departures ∧ (f u).matrix = u.matrix ∧ (f u).limits = u.limits
      ∧ (f u).recipes = u.recipes ∧ (f u).staging = u.staging ∧ (f u).settings = u.settings
      ∧ (f u).yardOpen = u.yardOpen ∧ (f u).permit = u.permit ∧ (f u).clock = u.clock
      ∧ (f u).portRate = u.portRate ∧ (f u).resetPin = u.resetPin ∧ (f u).pending = u.pending
      ∧ (f u).plant = u.plant ∧ (f u).ports = u.ports)
    (h : Kept s t) : Kept s (f t) := by
  obtain ⟨h1, h2, h3, h4, h5, h6, h7, h8, h9, h10, h11, h12, h13, h14⟩ := hf t
  have hp : ∀ p, (f t).port p = t.port p := fun p => by simp only [State.port, h14]
  refine h.trans { departures := h1, matrix := h2, limits := h3, recipes := h4, staging := h5, settings := h6,
                   yardOpen := h7, permit := h8, clock := h9, portRate := h10, resetPin := h11, pending := h12,
                   hotCapacity := by rw [h13], scheme := by rw [h13], tokens := by rw [h13],
                   refreshTimer := by rw [h13], refreshDue := by rw [h13],
                   ports := fun p => by rw [hp],
                   notices := fun x p => by rw [hp]; exact x p, grants := fun x => by rw [h13]; exact x }

section Updates

variable {s t : State}

theorem setComp (h : Kept s t) (i : Comp) (x : CompartmentRecord) : Kept s (t.setComp i x) :=
  of_fields (fun u => u.setComp i x) (fun _ => ⟨rfl, rfl, rfl, rfl, rfl, rfl, rfl, rfl, rfl, rfl, rfl, rfl, rfl, rfl⟩) h

theorem modComp (h : Kept s t) (i : Comp) (f : CompartmentRecord → CompartmentRecord) : Kept s (t.modComp i f) :=
  h.setComp i _

theorem setTanker (h : Kept s t) (i : Tanker) (x : TankerEntry) : Kept s (t.setTanker i x) :=
  of_fields (fun u => u.setTanker i x) (fun _ => ⟨rfl, rfl, rfl, rfl, rfl, rfl, rfl, rfl, rfl, rfl, rfl, rfl, rfl, rfl⟩) h

theorem setBay (h : Kept s t) (b : Bay) (x : BayState) : Kept s (t.setBay b x) :=
  of_fields (fun u => u.setBay b x) (fun _ => ⟨rfl, rfl, rfl, rfl, rfl, rfl, rfl, rfl, rfl, rfl, rfl, rfl, rfl, rfl⟩) h

theorem modBay (h : Kept s t) (b : Bay) (f : BayState → BayState) : Kept s (t.modBay b f) := h.setBay b _

theorem setChan (h : Kept s t) (c : Chan) (x : WashChannel) : Kept s (t.setChan c x) :=
  of_fields (fun u => u.setChan c x) (fun _ => ⟨rfl, rfl, rfl, rfl, rfl, rfl, rfl, rfl, rfl, rfl, rfl, rfl, rfl, rfl⟩) h

theorem modChan (h : Kept s t) (c : Chan) (f : WashChannel → WashChannel) : Kept s (t.modChan c f) := h.setChan c _

theorem setLine (h : Kept s t) (l : Line) (x : ProbeLine) : Kept s (t.setLine l x) :=
  of_fields (fun u => u.setLine l x) (fun _ => ⟨rfl, rfl, rfl, rfl, rfl, rfl, rfl, rfl, rfl, rfl, rfl, rfl, rfl, rfl⟩) h

theorem modLine (h : Kept s t) (l : Line) (f : ProbeLine → ProbeLine) : Kept s (t.modLine l f) := h.setLine l _

theorem setInspection (h : Kept s t) (l : Line) (x : Option Inspection) : Kept s (t.setInspection l x) :=
  of_fields (fun u => u.setInspection l x) (fun _ => ⟨rfl, rfl, rfl, rfl, rfl, rfl, rfl, rfl, rfl, rfl, rfl, rfl, rfl, rfl⟩) h

theorem setLane (h : Kept s t) (l : Lane) (x : FillLane) : Kept s (t.setLane l x) :=
  of_fields (fun u => u.setLane l x) (fun _ => ⟨rfl, rfl, rfl, rfl, rfl, rfl, rfl, rfl, rfl, rfl, rfl, rfl, rfl, rfl⟩) h

theorem modLane (h : Kept s t) (l : Lane) (f : FillLane → FillLane) : Kept s (t.modLane l f) := h.setLane l _

theorem setCertCounter (h : Kept s t) (n : Nat) : Kept s { t with certCounter := n } :=
  of_fields (fun u => { u with certCounter := n })
    (fun _ => ⟨rfl, rfl, rfl, rfl, rfl, rfl, rfl, rfl, rfl, rfl, rfl, rfl, rfl, rfl⟩) h

/-- A new arbiter state that keeps the capacity, the scheme, the tokens and the refresh timer, with grants within capacity. -/
theorem setPlant (h : Kept s t) (p : Plant) (h1 : p.hotCapacity = t.plant.hotCapacity) (h2 : p.scheme = t.plant.scheme)
    (h3 : p.tokens = t.plant.tokens) (h4 : p.refreshTimer = t.plant.refreshTimer)
    (h5 : p.refreshDue = t.plant.refreshDue)
    (h6 : t.plant.granted.fits t.plant.capacity = true → p.granted.fits p.capacity = true) : Kept s (t.setPlant p) :=
  h.trans { departures := rfl, matrix := rfl, limits := rfl, recipes := rfl, staging := rfl, settings := rfl,
            yardOpen := rfl, permit := rfl, clock := rfl, portRate := rfl, resetPin := rfl, pending := rfl,
            hotCapacity := h1, scheme := h2, tokens := h3, refreshTimer := h4, refreshDue := h5,
            ports := fun _ => rfl, notices := id, grants := h6 }

theorem raiseNotice (h : Kept s t) (p : Port) (kind subject : Nat) :
    Kept s (Sys2Proof.Machine.raiseNotice p kind subject t) := by
  refine h.trans { departures := rfl, matrix := rfl, limits := rfl, recipes := rfl, staging := rfl, settings := rfl,
                   yardOpen := rfl, permit := rfl, clock := rfl, portRate := rfl, resetPin := rfl, pending := rfl,
                   hotCapacity := rfl, scheme := rfl, tokens := rfl, refreshTimer := rfl, refreshDue := rfl,
                   ports := ?_, notices := ?_, grants := id }
  · intro q
    rw [raiseNotice_eq, State.port_setPort]
    split
    · next e => subst e; rfl
    · rfl
  · intro x q
    rw [raiseNotice_eq, State.port_setPort]
    split
    · exact insertNotice_pairwise _ (x p)
    · exact x q

theorem foldl {α : Type} (f : State → α → State) (hf : ∀ u a, Kept u (f u a)) (h : Kept s t) (l : List α) :
    Kept s (l.foldl f t) := by
  induction l generalizing t with
  | nil => exact h
  | cons a l ih => exact ih (h.trans (hf t a))

end Updates

end Kept

end Sys2Proof.Machine
end

