-- ==== Sys2Proof/Laws/Arbiter.lean ====
section
/-! SUPPORT. The arbitration pass: what it keeps, and that its grants stay within the capacities (R105, R107, R113). -/

namespace Sys2Proof.Machine

open Sys2Proof (Chan)

theorem Units.fits_iff (x y : Units) : x.fits y = true ↔ x.hot ≤ y.hot ∧ x.steam ≤ y.steam ∧ x.doser ≤ y.doser := by
  simp [Units.fits]

/-- A resource: a component of units that adds up. -/
structure Resource where
  of : Units → Nat
  zero : of Units.zero = 0
  add : ∀ x y, of (x.add y) = of x + of y

def Resource.hot : Resource := ⟨Units.hot, rfl, fun _ _ => rfl⟩
def Resource.steam : Resource := ⟨Units.steam, rfl, fun _ _ => rfl⟩
def Resource.doser : Resource := ⟨Units.doser, rfl, fun _ _ => rfl⟩

namespace Plant

theorem foldl_add (π : Resource) {α : Type} (f : α → Units) (l : List α) (u : Units) :
    π.of (l.foldl (fun u c => u.add (f c)) u) = π.of u + (l.map fun c => π.of (f c)).sum := by
  induction l generalizing u with
  | nil => simp
  | cons a l ih => simp [ih, π.add]; omega

theorem granted_of (π : Resource) (p : Plant) : π.of p.granted = ∑ c : Chan, π.of (p.grantUnits c) := by
  unfold granted
  rw [foldl_add, π.zero, Nat.zero_add, ← List.ofFn_eq_map, List.sum_ofFn]

theorem grantUnits_setGrant (p : Plant) (c d : Chan) (x : Option Grant) :
    (p.setGrant c x).grantUnits d = if d = c then x.elim Units.zero (fun g => g.units) else p.grantUnits d := by
  unfold grantUnits setGrant
  rw [put_get]
  split <;> rfl

/-- Replacing one grant adds at most the new grant's units to those held (R105). -/
theorem granted_setGrant_le (π : Resource) (p : Plant) (c : Chan) (x : Option Grant) :
    π.of (p.setGrant c x).granted ≤ π.of p.granted + π.of (x.elim Units.zero fun g => g.units) := by
  rw [granted_of, granted_of, ← Finset.add_sum_erase _ _ (Finset.mem_univ c),
    ← Finset.add_sum_erase _ (fun d => π.of (p.grantUnits d)) (Finset.mem_univ c)]
  have h1 : ∑ d ∈ Finset.univ.erase c, π.of ((p.setGrant c x).grantUnits d)
      = ∑ d ∈ Finset.univ.erase c, π.of (p.grantUnits d) := by
    refine Finset.sum_congr rfl fun d hd => ?_
    rw [grantUnits_setGrant, if_neg (Finset.ne_of_mem_erase hd)]
  rw [h1, grantUnits_setGrant, if_pos rfl]
  omega

/-- Releasing a grant lowers what is held, or leaves it (R106). -/
theorem granted_release_le (π : Resource) (p : Plant) (c : Chan) :
    π.of (p.setGrant c none).granted ≤ π.of p.granted := by
  have := granted_setGrant_le π p c none
  simpa [π.zero] using this

/-- What a waiting claim, a change of priority or an anchor leaves: the grants. -/
theorem granted_congr {p q : Plant} (h : q.grants = p.grants) : q.granted = p.granted := by
  unfold granted grantUnits
  rw [h]

/-- The parts of the arbiter that neither claims, grants, priority nor anchors touch. -/
structure SameSetup (p q : Plant) : Prop where
  hotCapacity : q.hotCapacity = p.hotCapacity
  scheme : q.scheme = p.scheme
  tokens : q.tokens = p.tokens
  refreshTimer : q.refreshTimer = p.refreshTimer
  refreshDue : q.refreshDue = p.refreshDue

theorem SameSetup.refl (p : Plant) : SameSetup p p := ⟨rfl, rfl, rfl, rfl, rfl⟩

theorem SameSetup.trans {p q r : Plant} (h : SameSetup p q) (k : SameSetup q r) : SameSetup p r :=
  ⟨k.1.trans h.1, k.2.trans h.2, k.3.trans h.3, k.4.trans h.4, k.5.trans h.5⟩

theorem SameSetup.capacity {p q : Plant} (h : SameSetup p q) : q.capacity = p.capacity := by
  unfold Plant.capacity; rw [h.hotCapacity]

theorem SameSetup.foldl {α : Type} (f : Plant → α → Plant) (hf : ∀ p a, SameSetup p (f p a)) (l : List α) (p : Plant) :
    SameSetup p (l.foldl f p) := by
  induction l generalizing p with
  | nil => exact .refl p
  | cons a l ih => exact (hf p a).trans (ih _)

theorem rotate_setup (p : Plant) (c : Chan) (b : Bool) : SameSetup p (p.rotate c b) := by
  unfold rotate; split
  · exact .refl p
  · next h => split <;> exact ⟨rfl, rfl, rfl, rfl, rfl⟩

theorem rotate_grants (p : Plant) (c : Chan) (b : Bool) : (p.rotate c b).grants = p.grants := by
  unfold rotate; split <;> [rfl; (split <;> rfl)]

theorem rotate_claims (p : Plant) (c : Chan) (b : Bool) : (p.rotate c b).claims = p.claims := by
  unfold rotate; split <;> [rfl; (split <;> rfl)]

theorem grant_setup (p : Plant) (c : Chan) : SameSetup p (p.grant c) := by
  unfold grant; split
  · exact .refl p
  · next k _ =>
    exact SameSetup.trans (q := (p.setClaim c none).setGrant c (some ⟨k.kind, k.units, k.pair⟩))
      ⟨rfl, rfl, rfl, rfl, rfl⟩ (rotate_setup ..)

/-- Granting one claim adds at most its units to those held. -/
theorem granted_grant_le (π : Resource) (p : Plant) (c : Chan) :
    π.of (p.grant c).granted ≤ π.of p.granted + π.of (p.claimUnits c) := by
  unfold grant claimUnits
  split
  · next h => simp [h]
  · next k h =>
    rw [granted_congr (rotate_grants ..)]
    have h1 := granted_setGrant_le π (p.setClaim c none) c (some ⟨k.kind, k.units, k.pair⟩)
    rw [granted_congr (p := p) (q := p.setClaim c none) rfl] at h1
    simpa [h] using h1

theorem claimUnits_setClaim (p : Plant) (c d : Chan) (x : Option Claim) :
    (p.setClaim c x).claimUnits d = if d = c then x.elim Units.zero (fun k => k.units) else p.claimUnits d := by
  unfold claimUnits setClaim
  rw [put_get]
  split <;> rfl

theorem claimUnits_grant_le (π : Resource) (p : Plant) (c d : Chan) :
    π.of ((p.grant c).claimUnits d) ≤ π.of (p.claimUnits d) := by
  unfold grant
  split
  · exact le_rfl
  · next k h =>
    have h1 : ∀ q : Plant, ∀ b, (q.rotate c b).claimUnits d = q.claimUnits d := fun q b => by
      unfold claimUnits; rw [rotate_claims]
    rw [h1]
    have h2 : ((p.setClaim c none).setGrant c (some ⟨k.kind, k.units, k.pair⟩)).claimUnits d
        = (p.setClaim c none).claimUnits d := rfl
    rw [h2, claimUnits_setClaim]
    split
    · simp [π.zero]
    · exact le_rfl

theorem granted_grants_le (π : Resource) (l : List Chan) (p : Plant) :
    π.of (l.foldl grant p).granted ≤ π.of p.granted + (l.map fun c => π.of (p.claimUnits c)).sum := by
  induction l generalizing p with
  | nil => simp
  | cons c l ih =>
    have h1 := ih (p.grant c)
    have h2 := granted_grant_le π p c
    have h3 : (l.map fun d => π.of ((p.grant c).claimUnits d)).sum ≤ (l.map fun d => π.of (p.claimUnits d)).sum :=
      List.sum_le_sum fun d _ => claimUnits_grant_le π p c d
    simp only [List.foldl_cons, List.map_cons, List.sum_cons]
    omega

/-- What a pass has set aside is what it found free, less what is still free. -/
def Passing.Balanced (p : Plant) (start : Units) (x : Passing) : Prop :=
  ∀ π : Resource, (π = .hot ∨ π = .steam ∨ π = .doser) →
    π.of x.free + (x.granted.map fun c => π.of (p.claimUnits c)).sum = π.of start

theorem consider_balanced {p : Plant} {start : Units} {x : Passing} (h : x.Balanced p start) (anchor : Option Units)
    (c : Chan) : (p.consider anchor x c).Balanced p start := by
  unfold consider
  split
  · exact h
  · next k hk =>
    split
    · next hc =>
      have hf := (Units.fits_iff ..).1 ((Bool.and_eq_true ..).mp hc).1
      intro π hπ
      have h0 := h π hπ
      have hu : p.claimUnits c = k.units := by unfold claimUnits; rw [hk]; rfl
      simp only [List.map_append, List.map_cons, List.map_nil, List.sum_append, List.sum_cons, List.sum_nil, hu]
      rcases hπ with rfl | rfl | rfl <;>
        simp only [Resource.hot, Resource.steam, Resource.doser, Units.sub] at * <;> omega
    · exact h

theorem considers_balanced {p : Plant} {start : Units} (anchor : Option Units) (l : List Chan) {x : Passing}
    (h : x.Balanced p start) : (l.foldl (p.consider anchor) x).Balanced p start := by
  induction l generalizing x with
  | nil => exact h
  | cons c l ih => exact ih (consider_balanced h anchor c)

/-- The units that a pass grants were all free at its start (R113). -/
theorem passGrants_le_free (p : Plant) (π : Resource) (hπ : π = .hot ∨ π = .steam ∨ π = .doser) :
    (p.passGrants.map fun c => π.of (p.claimUnits c)).sum ≤ π.of p.free := by
  have h0 : (⟨p.free, []⟩ : Passing).Balanced p p.free := by intro π _; simp
  have key : ∀ x : Passing, x.Balanced p p.free → (x.granted.map fun c => π.of (p.claimUnits c)).sum ≤ π.of p.free :=
    fun x hx => by have := hx π hπ; omega
  unfold passGrants
  split
  · exact key _ (considers_balanced none _ h0)
  · dsimp only
    split
    · exact key _ (considers_balanced none _ (consider_balanced h0 none _))
    · exact key _ (considers_balanced _ _ (consider_balanced h0 none _))

theorem countSkip_grants (limit : Nat) (order granted : List Chan) (p : Plant) (c : Chan) :
    (countSkip limit order granted p c).grants = p.grants := by
  unfold countSkip; split <;> [rfl; (split <;> rfl)]

theorem countSkip_setup (limit : Nat) (order granted : List Chan) (p : Plant) (c : Chan) :
    SameSetup p (countSkip limit order granted p c) := by
  unfold countSkip; split
  · exact .refl p
  · split <;> exact ⟨rfl, rfl, rfl, rfl, rfl⟩

theorem countSkips_grants (limit : Nat) (order granted l : List Chan) (p : Plant) :
    (l.foldl (countSkip limit order granted) p).grants = p.grants := by
  induction l generalizing p with
  | nil => rfl
  | cons c l ih => rw [List.foldl_cons, ih, countSkip_grants]

theorem chooseAnchor_grants (limit : Nat) (order : List Chan) (p : Plant) :
    (p.chooseAnchor limit order).grants = p.grants := by
  unfold chooseAnchor; split
  · rfl
  · split
    · rfl
    · split <;> rfl

theorem chooseAnchor_setup (limit : Nat) (order : List Chan) (p : Plant) : SameSetup p (p.chooseAnchor limit order) := by
  unfold chooseAnchor; split
  · exact .refl p
  · split
    · exact .refl p
    · split
      · exact .refl p
      · exact ⟨rfl, rfl, rfl, rfl, rfl⟩

/-- A pass keeps the capacity, the scheme, the tokens and the refresh timer (R112 to R114). -/
theorem pass_setup (limit : Nat) (p : Plant) : SameSetup p (p.pass limit).1 := by
  unfold pass
  exact ((SameSetup.foldl _ grant_setup _ p).trans
    (SameSetup.foldl _ (countSkip_setup limit _ _) _ _)).trans (chooseAnchor_setup ..)

/-- The units held in grants after a pass are within the capacities when they were before it (R105). -/
theorem pass_granted_fits (limit : Nat) (p : Plant) (h : p.granted.fits p.capacity = true) :
    (p.pass limit).1.granted.fits (p.pass limit).1.capacity = true := by
  rw [(pass_setup limit p).capacity]
  have hg : (p.pass limit).1.granted = (p.passGrants.foldl grant p).granted := by
    refine granted_congr ?_
    show ((p.passOrder.foldl (countSkip limit p.passOrder p.passGrants) (p.passGrants.foldl grant p)).chooseAnchor limit
      p.passOrder).grants = _
    rw [chooseAnchor_grants, countSkips_grants]
  rw [hg, Units.fits_iff]
  have hf := (Units.fits_iff ..).1 h
  have h1 := granted_grants_le .hot p.passGrants p
  have h2 := granted_grants_le .steam p.passGrants p
  have h3 := granted_grants_le .doser p.passGrants p
  have k1 := passGrants_le_free p .hot (.inl rfl)
  have k2 := passGrants_le_free p .steam (.inr (.inl rfl))
  have k3 := passGrants_le_free p .doser (.inr (.inr rfl))
  simp only [Resource.hot, Resource.steam, Resource.doser, free, Units.sub] at *
  omega

/-- A release keeps the grants within the capacities (R105, R106). -/
theorem release_granted_fits (p : Plant) (c : Chan) (h : p.granted.fits p.capacity = true) :
    (p.setGrant c none).granted.fits (p.setGrant c none).capacity = true := by
  rw [Units.fits_iff] at *
  have h1 := granted_release_le .hot p c
  have h2 := granted_release_le .steam p c
  have h3 := granted_release_le .doser p c
  have hc : (p.setGrant c none).capacity = p.capacity := rfl
  simp only [Resource.hot, Resource.steam, Resource.doser, hc] at *
  omega

end Plant

end Sys2Proof.Machine
end

