-- ==== Sys2Proof/Laws/Checks.lean ====
section
/-! SUPPORT. The two CRCs one bit and one byte at a time, as polynomials over single bits (R132, R177), and the bit orders of a
probe line's characters (R126). -/

namespace Sys2Proof.Machine

open Sys2Proof (Byte)

/-! ## Multiples of a generator -/

theorem MultipleOf.zero (g : Nat) : MultipleOf g 0 := ⟨[], rfl⟩

theorem MultipleOf.self (g : Nat) : MultipleOf g g := ⟨[0], by simp⟩

theorem foldl_xor_shifts (g : Nat) (l : List Nat) (a : Nat) :
    l.foldl (fun m k => m ^^^ (g <<< k)) a = a ^^^ l.foldl (fun m k => m ^^^ (g <<< k)) 0 := by
  induction l generalizing a with
  | nil => simp
  | cons k l ih =>
    simp only [List.foldl_cons]
    rw [ih, ih (0 ^^^ _)]
    simp [Nat.xor_assoc]

theorem MultipleOf.xor {g m n : Nat} (h : MultipleOf g m) (k : MultipleOf g n) : MultipleOf g (m ^^^ n) := by
  obtain ⟨a, rfl⟩ := h
  obtain ⟨b, rfl⟩ := k
  exact ⟨a ++ b, by rw [List.foldl_append]; exact (foldl_xor_shifts _ _ _).symm⟩

theorem xor_shiftLeft (a b k : Nat) : (a ^^^ b) <<< k = (a <<< k) ^^^ (b <<< k) := by
  apply Nat.eq_of_testBit_eq
  intro i
  simp only [Nat.testBit_shiftLeft, Nat.testBit_xor]
  cases decide (k ≤ i) <;> simp

theorem MultipleOf.shift {g m : Nat} (h : MultipleOf g m) (k : Nat) : MultipleOf g (m <<< k) := by
  obtain ⟨a, rfl⟩ := h
  have moved : ∀ x : Nat, (a.map (· + k)).foldl (fun m j => m ^^^ (g <<< j)) (x <<< k)
      = (a.foldl (fun m j => m ^^^ (g <<< j)) x) <<< k := by
    induction a with
    | nil => intro x; rfl
    | cons j a ih =>
      intro x
      simp only [List.map_cons, List.foldl_cons]
      rw [← ih, xor_shiftLeft, Nat.shiftLeft_add]
  exact ⟨a.map (· + k), by simpa using (moved 0).symm⟩

/-- One more step of division by a generator. -/
theorem MultipleOf.step {g a b c k : Nat} (h : MultipleOf g ((a <<< k) ^^^ b)) (h' : MultipleOf g ((b <<< 1) ^^^ c)) :
    MultipleOf g ((a <<< (k + 1)) ^^^ c) := by
  have both := (h.shift 1).xor h'
  rw [xor_shiftLeft, ← Nat.shiftLeft_add] at both
  have cancel : (a <<< (k + 1) ^^^ b <<< 1) ^^^ (b <<< 1 ^^^ c) = a <<< (k + 1) ^^^ c := by
    rw [Nat.xor_assoc, ← Nat.xor_assoc (b <<< 1), Nat.xor_self, Nat.zero_xor]
  rwa [cancel] at both

/-! ## One bit -/

theorem testBit_sixteen (x : BitVec 16) {i : Nat} (h : 16 ≤ i) : x.toNat.testBit i = false :=
  Nat.testBit_lt_two_pow (lt_of_lt_of_le x.isLt (Nat.pow_le_pow_right (by omega) h))

theorem testBit_seventeen {n i : Nat} (hn : n < 2 ^ 17) (hi : ¬i < 17) : n.testBit i = false :=
  Nat.testBit_lt_two_pow (lt_of_lt_of_le hn (Nat.pow_le_pow_right (by omega) (by omega)))

theorem probeCrcBit_toNat (c : BitVec 16) :
    (probeCrcBit c).toNat = (c.toNat <<< 1) ^^^ (if c.getLsbD 15 then 0x11021 else 0) := by
  apply Nat.eq_of_testBit_eq
  intro i
  unfold probeCrcBit
  by_cases hi : i < 17
  · cases h : c.getLsbD 15 <;> simp only [if_true, if_false, Bool.false_eq_true] <;>
      simp only [BitVec.testBit_toNat, BitVec.getLsbD_xor, BitVec.getLsbD_shiftLeft, Nat.testBit_xor,
        Nat.testBit_shiftLeft] <;>
      interval_cases i <;> simp_all <;> simp [Nat.testBit]
  · rw [testBit_sixteen _ (by omega), Nat.testBit_xor, Nat.testBit_shiftLeft, testBit_sixteen c (i := i - 1) (by omega),
      testBit_seventeen (by split <;> omega) hi]
    simp

theorem portCrcBit_reverse_toNat (c : BitVec 16) :
    (portCrcBit c).reverse.toNat = (c.reverse.toNat <<< 1) ^^^ (if c.getLsbD 0 then 0x18005 else 0) := by
  apply Nat.eq_of_testBit_eq
  intro i
  unfold portCrcBit
  by_cases hi : i < 17
  · cases h : c.getLsbD 0 <;> simp only [if_true, if_false, Bool.false_eq_true] <;>
      simp only [BitVec.testBit_toNat, BitVec.getLsbD_reverse, BitVec.getMsbD_eq_getLsbD, BitVec.getLsbD_xor,
        BitVec.getLsbD_ushiftRight, Nat.testBit_xor, Nat.testBit_shiftLeft] <;>
      interval_cases i <;> simp_all <;> simp [Nat.testBit]
  · rw [testBit_sixteen _ (by omega), Nat.testBit_xor, Nat.testBit_shiftLeft,
      testBit_sixteen c.reverse (i := i - 1) (by omega), testBit_seventeen (by split <;> omega) hi]
    simp

theorem probeCrcBit_divides (c : BitVec 16) : MultipleOf 0x11021 ((c.toNat <<< 1) ^^^ (probeCrcBit c).toNat) := by
  rw [probeCrcBit_toNat, ← Nat.xor_assoc, Nat.xor_self, Nat.zero_xor]
  split <;> [exact MultipleOf.self _; exact MultipleOf.zero _]

theorem portCrcBit_divides (c : BitVec 16) :
    MultipleOf 0x18005 ((c.reverse.toNat <<< 1) ^^^ (portCrcBit c).reverse.toNat) := by
  rw [portCrcBit_reverse_toNat, ← Nat.xor_assoc, Nat.xor_self, Nat.zero_xor]
  split <;> [exact MultipleOf.self _; exact MultipleOf.zero _]

/-! ## One byte -/

theorem probeCrcByte_divides (c : BitVec 16) (b : Byte) :
    MultipleOf 0x11021 (((c.toNat ^^^ (b.toNat <<< 8)) <<< 8) ^^^ (probeCrcByte c b).toNat) := by
  have start : (c ^^^ (b.zeroExtend 16 <<< 8)).toNat = c.toNat ^^^ (b.toNat <<< 8) := by
    have := b.isLt
    simp [Nat.shiftLeft_eq]
    omega
  rw [← start]
  unfold probeCrcByte
  have d := probeCrcBit_divides
  exact ((((((((d _).step (d _)).step (d _)).step (d _)).step (d _)).step (d _)).step (d _)).step (d _))

theorem portCrcByte_divides (c : BitVec 16) (b : Byte) :
    MultipleOf 0x18005 (((c.reverse.toNat ^^^ (b.reverse.toNat <<< 8)) <<< 8) ^^^ (portCrcByte c b).reverse.toNat) := by
  have start : (c ^^^ (b.zeroExtend 16)).reverse.toNat = c.reverse.toNat ^^^ (b.reverse.toNat <<< 8) := by
    have bits : (c ^^^ (b.zeroExtend 16)).reverse = c.reverse ^^^ (b.reverse.zeroExtend 16 <<< 8) := by
      apply BitVec.eq_of_getLsbD_eq
      intro i hi
      simp only [BitVec.getLsbD_reverse, BitVec.getMsbD_eq_getLsbD, BitVec.getLsbD_xor, BitVec.getLsbD_shiftLeft,
        BitVec.getLsbD_setWidth, BitVec.zeroExtend]
      interval_cases i <;> simp
    rw [bits]
    have := b.reverse.isLt
    simp [Nat.shiftLeft_eq]
    omega
  rw [← start]
  unfold portCrcByte
  have d := portCrcBit_divides
  exact ((((((((d _).step (d _)).step (d _)).step (d _)).step (d _)).step (d _)).step (d _)).step (d _))

theorem probeCrc_append (l : List Byte) (b : Byte) : probeCrc (l ++ [b]) = probeCrcByte (probeCrc l) b := by simp [probeCrc]

theorem portCrc_append (l : List Byte) (b : Byte) : portCrc (l ++ [b]) = portCrcByte (portCrc l) b := by simp [portCrc]

theorem messageBits_append (l : List Byte) (b : Byte) : messageBits (l ++ [b]) = (messageBits l <<< 8) ^^^ b.toNat := by
  have hb := b.isLt
  have e : messageBits (l ++ [b]) = 2 ^ 8 * messageBits l + b.toNat := by simp [messageBits]
  rw [e]
  apply Nat.eq_of_testBit_eq
  intro i
  rw [Nat.testBit_two_pow_mul_add _ hb, Nat.testBit_xor, Nat.testBit_shiftLeft]
  by_cases h : i < 8
  · have : decide (i ≥ 8) = false := by simpa using h
    simp [h, this]
  · have above : decide (i ≥ 8) = true := by simpa using h
    have none : b.toNat.testBit i = false :=
      Nat.testBit_lt_two_pow (lt_of_lt_of_le hb (Nat.pow_le_pow_right (by omega) (by omega)))
    simp [h, above, none]

/-! ## Bit orders -/

theorem reverseBits_getLsbD (b : Byte) (i : Nat) (h : i < 8) : (reverseBits b).getLsbD i = b.getLsbD (7 - i) := by
  revert i b
  decide +kernel

theorem reverseBits_reverseBits (b : Byte) : reverseBits (reverseBits b) = b := by
  revert b
  decide +kernel

/-- What a line sends under a bit order reads as the byte under that order. -/
theorem charValue_wireBits (o : BitOrder) (b : Byte) : charValue o (wireBits o b) = b := by
  cases o <;> [rfl; exact reverseBits_reverseBits b]

end Sys2Proof.Machine
end

