-- ==== Sys2Proof/Laws/Work.lean ====
section
/-! SUPPORT. Each shared operation of the compartment table, the channels, the bays, the probe lines and the lanes does the yard's
work and no more: what `Kept` names stays as it was. -/

namespace Sys2Proof.Machine

open Sys2Proof (Byte Comp Tanker Bay Chan RecipeSlot CargoClass Line Lane Port)

namespace Kept

variable {s t : State}

/-! ## Records -/

theorem oweAttempt (h : Kept s t) (b : Bay) : Kept s (oweAttempt b t) := h.modBay b _

theorem issueCertificate (h : Kept s t) (i : Comp) : Kept s (issueCertificate i t) :=
  ((h.modComp i _).setCertCounter _).raiseNotice ..

theorem holdRecord (h : Kept s t) (i : Comp) (w : HoldReason) : Kept s (holdRecord i w t) :=
  (h.modComp i _).raiseNotice ..

theorem queueInOn (h : Kept s t) (cell : Cell) (b : Bay) (i : Comp) : Kept s (queueInOn cell b i t) := by
  unfold Machine.queueInOn
  split
  · exact (h.modComp i _).modBay b _
  · split
    · exact h.modComp i _
    · exact h.issueCertificate i
  · exact h.modComp i _

theorem queueIn (h : Kept s t) (b : Bay) (i : Comp) : Kept s (queueIn b i t) := by
  unfold Machine.queueIn
  split
  · exact h
  · exact h.queueInOn ..

theorem queueInAlone (h : Kept s t) (i : Comp) : Kept s (queueInAlone i t) := by
  unfold Machine.queueInAlone
  split
  · exact h
  · dsimp only
    split
    · exact (h.queueIn _ i).oweAttempt _
    · exact h.queueIn _ i

theorem reportRounds (h : Kept s t) (i : Comp) (c : Chan) (n : Nat) : Kept s (reportRounds i c n t) := by
  unfold Machine.reportRounds; split <;> [exact h.modComp i _; exact h]

theorem reportComplete (h : Kept s t) (i : Comp) (c : Chan) : Kept s (reportComplete i c t) := by
  unfold Machine.reportComplete
  split
  · dsimp only
    split
    · exact h.modComp i _
    · exact (h.modComp i _).issueCertificate i
  · exact h

theorem reportStopped (h : Kept s t) (i : Comp) (c : Chan) (w : Reason) : Kept s (reportStopped i c w t) := by
  unfold Machine.reportStopped; split <;> [exact h.holdRecord i _; exact h]

theorem returnBinding (h : Kept s t) (i : Comp) (c : Chan) : Kept s (returnBinding i c t) := by
  unfold Machine.returnBinding; split <;> [exact (h.modComp i _).modBay _ _; exact h]

theorem reportPass (h : Kept s t) (i : Comp) (w : Measures) : Kept s (reportPass i w t) := by
  unfold Machine.reportPass; split <;> [exact (h.modComp i _).issueCertificate i; exact h]

theorem reportFail (h : Kept s t) (i : Comp) (w : Measures) (l : List Measure) : Kept s (reportFail i w l t) := by
  unfold Machine.reportFail; split <;> [exact (h.modComp i _).holdRecord i _; exact h]

theorem reportLinkError (h : Kept s t) (i : Comp) : Kept s (reportLinkError i t) := by
  unfold Machine.reportLinkError
  split
  · dsimp only
    split
    · exact (h.modComp i _).holdRecord i _
    · exact h.modComp i _
  · exact h

theorem reportNoJudgement (h : Kept s t) (i : Comp) : Kept s (reportNoJudgement i t) := by
  unfold Machine.reportNoJudgement; split <;> [exact h.modComp i _; exact h]

theorem reportFill (h : Kept s t) (l : Lane) (x : FillContext) (n : Nat) (o : FillOutcome) :
    Kept s (reportFill l x n o t) := by
  unfold Machine.reportFill
  split
  · split
    · exact (h.modComp _ _).raiseNotice ..
    · exact h.modComp _ _
  · exact h

theorem examineExpiry (h : Kept s t) (i : Comp) : Kept s (examineExpiry i t) := by
  unfold Machine.examineExpiry
  dsimp only
  split
  · exact (h.raiseNotice ..).holdRecord i _
  · exact h

/-! ## Channels and claims -/

theorem modRun (h : Kept s t) (c : Chan) (f : RunContext → RunContext) : Kept s (modRun c f t) := h.modChan c _

theorem modHeads (h : Kept s t) (l : List Chan) (f : WashChannel → WashChannel) : Kept s (modHeads l f t) :=
  h.foldl _ (fun u c => (refl u).modChan c f) l

theorem enterIdle (h : Kept s t) (c : Chan) : Kept s (enterIdle c t) := (h.modChan c _).oweAttempt _

theorem endStopping (h : Kept s t) (c : Chan) : Kept s (endStopping c t) := by
  unfold Machine.endStopping
  dsimp only
  split
  · exact (h.modChan c _).enterIdle c
  · exact h.modChan c _

theorem stopHead (h : Kept s t) (x : Chan × Reason) : Kept s (stopHead t x) := by
  unfold Machine.stopHead
  have h1 : Kept s ((t.chan x.1).binding.elim t fun b => Machine.reportStopped b.comp x.1 x.2 t) := by
    cases (t.chan x.1).binding with
    | none => exact h
    | some b => exact h.reportStopped ..
  dsimp only
  split
  · split
    · exact ((h1.modChan _ _).raiseNotice ..).endStopping _
    · exact ((h1.modChan _ _).raiseNotice ..).endStopping _
  · split
    · exact (h1.modChan _ _).raiseNotice ..
    · exact (h1.modChan _ _).raiseNotice ..

theorem stopHeads (h : Kept s t) (l : List (Chan × Reason)) : Kept s (stopHeads l t) :=
  h.foldl _ (fun u x => (refl u).stopHead x) l

theorem startPass (h : Kept s t) (c : Chan) : Kept s (startPass c t) := (h.modHeads _ _).modRun c _

theorem judgeNoPermit (h : Kept s t) (c : Chan) : Kept s (judgeNoPermit c t).1 := by
  unfold Machine.judgeNoPermit
  split
  · exact h
  · split
    · exact h.modHeads _ _
    · split
      · exact h.stopHeads _
      · exact h

theorem enterRunning (h : Kept s t) (c : Chan) : Kept s (enterRunning c t).1 := by
  unfold Machine.enterRunning
  dsimp only
  split
  · exact (h.modHeads _ _).startPass c
  · exact ((h.modHeads _ _).startPass c).judgeNoPermit c

theorem handGrant (h : Kept s t) (c : Chan) : Kept s (handGrant c t).1 := by
  unfold Machine.handGrant; split <;> [exact h.enterRunning c; exact h]

theorem handGrants (h : Kept s t) (l : List Chan) : Kept s (handGrants l t).1 := by
  induction l generalizing t with
  | nil => exact h
  | cons c l ih => exact ih (h.handGrant c)

theorem setPlant_same (h : Kept s t) {p : Plant} (hp : Plant.SameSetup t.plant p)
    (hg : t.plant.granted.fits t.plant.capacity = true → p.granted.fits p.capacity = true) : Kept s (t.setPlant p) :=
  h.setPlant p hp.hotCapacity hp.scheme hp.tokens hp.refreshTimer hp.refreshDue hg

theorem makePass (h : Kept s t) : Kept s (makePass t).1 :=
  (h.setPlant_same (Plant.pass_setup _ _) (Plant.pass_granted_fits _ _)).handGrants _

theorem release (h : Kept s t) (c : Chan) : Kept s (t.setPlant (t.plant.setGrant c none)) :=
  h.setPlant_same ⟨rfl, rfl, rfl, rfl, rfl⟩ (Plant.release_granted_fits _ c)

theorem setClaim (h : Kept s t) (c : Chan) (x : Option Claim) : Kept s (t.setPlant (t.plant.setClaim c x)) :=
  h.setPlant_same ⟨rfl, rfl, rfl, rfl, rfl⟩ id

theorem takeReleases (h : Kept s t) (n : Nat) (l : List Chan) : Kept s (takeReleases n l t) := by
  induction n generalizing t l with
  | zero => exact h
  | succ n ih =>
    cases l with
    | nil => exact h
    | cons c l =>
      unfold Machine.takeReleases
      split
      · exact ih (h.release c).makePass _
      · exact ih h _

theorem arbitrate (h : Kept s t) : Kept s (arbitrate t) := h.makePass.takeReleases _ _

theorem releaseGrant (h : Kept s t) (c : Chan) : Kept s (releaseGrant c t) := h.takeReleases _ _

theorem withdrawClaim (h : Kept s t) (c : Chan) : Kept s (withdrawClaim c t) := by
  unfold Machine.withdrawClaim; split <;> [exact (h.setClaim c none).arbitrate; exact h]

theorem giveBack (h : Kept s t) (c : Chan) : Kept s (giveBack c t) := by
  unfold Machine.giveBack; split <;> [exact h.releaseGrant c; exact h.withdrawClaim c]

theorem lodgeClaim (h : Kept s t) (c : Chan) (k : ClaimKind) (u : Units) : Kept s (lodgeClaim c k u t) := by
  unfold Machine.lodgeClaim; split <;> [exact (h.setClaim c _).arbitrate; exact h.stopHeads _]

theorem beginStep (h : Kept s t) (c : Chan) (n : Nat) : Kept s (beginStep c n t) := by
  unfold Machine.beginStep
  dsimp only
  split
  · exact (h.modRun c _).modHeads _ _
  · split
    · exact ((((h.modRun c _).modHeads _ _).modRun c _).enterRunning c).takeReleases _ _
    · exact (((h.modRun c _).modHeads _ _).modRun c _).lodgeClaim ..

theorem completeRun (h : Kept s t) (c : Chan) : Kept s (completeRun c t) := by
  unfold Machine.completeRun
  refine foldl _ (fun u d => (((refl u).modChan d _).enterIdle d).raiseNotice ..) ?_ _
  cases (t.chan c).binding with
  | none => exact h
  | some b => exact h.reportComplete ..

theorem endRound (h : Kept s t) (c : Chan) : Kept s (endRound c t) := by
  unfold Machine.endRound
  split
  · dsimp only
    split
    · refine beginStep ?_ c 1
      cases ((Machine.modRun c _ t).chan c).binding with
      | none => exact h.modRun c _
      | some b => exact (h.modRun c _).reportRounds ..
    · exact (h.modRun c _).completeRun c
  · exact h

theorem endStep (h : Kept s t) (c : Chan) : Kept s (endStep c t) := by
  unfold Machine.endStep
  dsimp only
  split
  · split
    · exact ((h.modHeads _ _).releaseGrant c).beginStep c _
    · exact ((h.modHeads _ _).releaseGrant c).endRound c
  · exact (h.modHeads _ _).releaseGrant c

theorem endPass (h : Kept s t) (c : Chan) : Kept s (endPass c t) := by
  unfold Machine.endPass
  split
  · exact h
  · split
    · exact h.endStep c
    · exact (h.modRun c _).startPass c

theorem stopRun (h : Kept s t) (c : Chan) (l : List (Chan × Reason)) : Kept s (stopRun c l t) :=
  (h.stopHeads l).giveBack c

theorem giveBindingBack (h : Kept s t) (c : Chan) : Kept s (giveBindingBack c t) := by
  unfold Machine.giveBindingBack
  refine withdrawClaim (modHeads ?_ _ _) c
  cases (t.chan c).binding with
  | none => exact h
  | some b => exact h.returnBinding ..

theorem setRun (h : Kept s t) (c : Chan) (x : RecipeSlot) (n : Nat) : Kept s (setRun c x n t) := h.modChan c _

/-! ## Channel events -/

theorem passTimerOut (h : Kept s t) (c : Chan) : Kept s (passTimerOut c t) := by
  unfold Machine.passTimerOut
  dsimp only
  split
  · split <;> [exact h.endPass _; exact h]
  · exact h

theorem runningTimeOut (h : Kept s t) (c : Chan) : Kept s (runningTimeOut c t) := by
  unfold Machine.runningTimeOut
  dsimp only
  split
  · split <;> [exact h.endPass _; exact h]
  · exact h

theorem flowPulse (h : Kept s t) (c : Chan) : Kept s (flowPulse c t) := by
  unfold Machine.flowPulse
  split
  · exact h
  · split
    · dsimp only
      split
      · exact h.modChan c _
      · split
        · split
          · exact ((h.modChan c _).modChan c _).endPass _
          · exact (h.modChan c _).modChan c _
        · exact (h.modChan c _).endPass c
    · exact h

theorem guardOut (h : Kept s t) (c : Chan) : Kept s (guardOut c t) := by
  unfold Machine.guardOut
  dsimp only
  split
  · split <;> [exact h.stopRun ..; exact h]
  · exact h

theorem permitDropOn (h : Kept s t) (l : List Chan) (c : Chan) : Kept s (permitDropOn l t c) := by
  unfold Machine.permitDropOn; split <;> [exact (h.judgeNoPermit c).takeReleases _ _; exact h]

theorem pauseOut (h : Kept s t) (c : Chan) : Kept s (pauseOut c t) := by
  unfold Machine.pauseOut
  dsimp only
  split <;> [exact h.stopRun ..; exact h]

theorem setHeadIn (h : Kept s t) (c : Chan) (b : Bool) : Kept s (setHeadIn c b t) := h.modChan c _

theorem headDrop (h : Kept s t) (c : Chan) : Kept s (headDrop c t) := by
  unfold Machine.headDrop
  dsimp only
  split
  · exact h.setHeadIn c _
  · split
    · exact ((h.setHeadIn c _).modHeads _ _).withdrawClaim _
    all_goals first
      | exact h.setHeadIn c _
      | exact (h.setHeadIn c _).stopRun ..

theorem drainOut (h : Kept s t) (c : Chan) : Kept s (drainOut c t) := by
  unfold Machine.drainOut; split <;> [exact h.endStopping c; exact h]

/-! ## Bays -/

theorem bindChannel (h : Kept s t) (i : Comp) (c : Chan) (r : Role) : Kept s (bindChannel i c r t) :=
  (h.modChan c _).raiseNotice ..

theorem bindFront (h : Kept s t) (b : Bay) (i : Comp) (x : Placement) : Kept s (bindFront b i x t) := by
  unfold Machine.bindFront
  dsimp only
  split
  · exact ((h.modBay b _).modComp i _).bindChannel ..
  · exact (((h.modBay b _).modComp i _).bindChannel ..).bindChannel ..

theorem bindFronts (h : Kept s t) (n : Nat) (b : Bay) : Kept s (bindFronts n b t).1 := by
  induction n generalizing t with
  | zero => exact h
  | succ n ih =>
    unfold Machine.bindFronts
    split
    · exact h
    · split
      · exact h
      · exact ih (h.bindFront ..)

theorem dispatch (h : Kept s t) (b : Bay) : Kept s (dispatch b t).1 := by
  unfold Machine.dispatch; split <;> [exact h; exact h.bindFronts ..]

theorem dispatchOwed (h : Kept s t) (b : Bay) : Kept s (dispatchOwed b t) := by
  unfold Machine.dispatchOwed; split <;> [exact h; exact (h.modBay b _).dispatch b]

theorem unqueueRecord (h : Kept s t) (i : Comp) : Kept s (unqueueRecord t i) := by
  unfold Machine.unqueueRecord; split <;> [exact h.modComp i _; exact h]

theorem unparkTanker (h : Kept s t) (b : Bay) (i : Tanker) (x : TankerData) : Kept s (unparkTanker b i x t) :=
  ((h.foldl _ (fun u k => (refl u).unqueueRecord k) _).setTanker i _).modBay b _

theorem bookRecords (h : Kept s t) (x : Tanker) (k : Nat) (is : List Comp) (ds : List Description) :
    Kept s (bookRecords x k is ds t) := by
  induction is generalizing t k ds with
  | nil => unfold Machine.bookRecords; exact h
  | cons i is ih =>
    cases ds with
    | nil => unfold Machine.bookRecords; exact h
    | cons d ds => exact ih (h.setComp ..) ..

/-! ## Probe lines and inspections -/

theorem openLine (h : Kept s t) (l : Line) (i : Comp) : Kept s (openLine l i t) := by
  unfold Machine.openLine; split <;> [exact h.modLine l _; exact h]

theorem closeLine (h : Kept s t) (l : Line) (e : Option LinkError) : Kept s (closeLine l e t) := by
  unfold Machine.closeLine; split <;> [exact h.modLine l _; exact h]

theorem finishInspection (h : Kept s t) (l : Line) (x : Inspection) (o : InspectionOutcome) :
    Kept s (finishInspection l x o t) := ((h.modLine l _).setInspection l _).raiseNotice ..

theorem linkError (h : Kept s t) (l : Line) (e : LinkError) : Kept s (linkError l e t) := by
  unfold Machine.linkError
  split
  · dsimp only
    split
    · exact h.closeLine ..
    · exact ((h.closeLine ..).reportLinkError _).finishInspection ..
  · exact h

theorem endCharacter (h : Kept s t) (l : Line) (e : Bool) : Kept s (endCharacter l e t) := by
  unfold Machine.endCharacter
  split
  · split
    · exact h
    · split
      · split <;> [exact h.linkError ..; exact h.modLine l _]
      · split <;> exact h.modLine l _
  · exact h

theorem startBlock (h : Kept s t) (l : Line) : Kept s (startBlock l t) := by
  unfold Machine.startBlock
  split
  · split <;> [exact h; exact h.modLine l _]
  · exact h

theorem requestExchange (h : Kept s t) (l : Line) (d : List Byte) : Kept s (requestExchange l d t) := by
  unfold Machine.requestExchange; split <;> [exact h.modLine l _; exact h]

theorem openedReport (h : Kept s t) (l : Line) (n : Nat) : Kept s (openedReport l n t) := by
  unfold Machine.openedReport
  split
  · exact h
  · split
    · exact ((h.closeLine ..).reportNoJudgement _).finishInspection ..
    · exact (h.setInspection l _).requestExchange ..

theorem judgeInspection (h : Kept s t) (l : Line) (x : Inspection) : Kept s (judgeInspection l x t) := by
  unfold Machine.judgeInspection
  dsimp only
  split
  · exact ((h.closeLine ..).reportPass ..).finishInspection ..
  · exact ((h.closeLine ..).reportFail ..).finishInspection ..

theorem exchangeDone (h : Kept s t) (l : Line) (d : List Byte) : Kept s (exchangeDone l d t) := by
  unfold Machine.exchangeDone
  split
  · exact h
  · split
    · exact ((h.closeLine ..).reportLinkError _).finishInspection ..
    · dsimp only
      split
      · exact (h.setInspection l _).requestExchange ..
      · exact h.judgeInspection ..

theorem judgeReply (h : Kept s t) (l : Line) : Kept s (judgeReply l t) := by
  unfold Machine.judgeReply
  dsimp only
  split
  · exact h.linkError ..
  · split
    · exact h.linkError ..
    · exact (h.modLine l _).openedReport ..

theorem repeatWith (h : Kept s t) (l : Line) (d : List Byte) : Kept s (repeatWith l d t) := by
  unfold Machine.repeatWith; split <;> [exact h.linkError ..; exact h.modLine l _]

theorem extendWait (h : Kept s t) (l : Line) (f : Byte) : Kept s (extendWait l f t) := by
  unfold Machine.extendWait; split <;> [exact h.linkError ..; exact h.modLine l _]

theorem judgeBlock (h : Kept s t) (l : Line) : Kept s (judgeBlock l t) := by
  unfold Machine.judgeBlock
  dsimp only
  split
  · exact h.repeatWith ..
  · split
    · exact h.linkError ..
    · split
      · split <;> [exact h.linkError ..; exact h.repeatWith ..]
      · split
        · split <;> [exact h.linkError ..; exact h.extendWait ..]
        · exact (h.modLine l _).exchangeDone ..

theorem replyReceived (h : Kept s t) (l : Line) : Kept s (replyReceived l t) := by
  unfold Machine.replyReceived; split <;> [exact h.judgeReply l; exact h]

theorem blockReceived (h : Kept s t) (l : Line) : Kept s (blockReceived l t) := by
  unfold Machine.blockReceived; split <;> [exact h.judgeBlock l; exact h]

theorem badCharacter (h : Kept s t) (l : Line) : Kept s (badCharacter l t) := by
  unfold Machine.badCharacter
  dsimp only
  split <;> [exact (h.modLine l _).linkError ..; exact h.modLine l _]

theorem noteCharacter (h : Kept s t) (l : Line) : Kept s (noteCharacter l t) := h.modLine l _

theorem openingCharacter (h : Kept s t) (l : Line) (c : ProbeChar) : Kept s (openingCharacter l c t) := by
  unfold Machine.openingCharacter
  have h1 := (h.noteCharacter l).modLine l fun x =>
    { x with
      timers := { x.timers with sync := none, opening := x.timers.opening.or (x.timer (t.setting .openLimit)) } }
  dsimp only
  split
  · exact h1.badCharacter l
  · split
    · split
      · exact h1.modLine l _
      · split <;> [exact h1.modLine l _; exact (h1.modLine l _).linkError ..]
    · split <;> [exact h1.modLine l _; exact (h1.modLine l _).linkError ..]
    · exact h1.modLine l _

theorem blockCharacter (h : Kept s t) (l : Line) (c : ProbeChar) : Kept s (blockCharacter l c t) := by
  unfold Machine.blockCharacter
  dsimp only
  split
  · exact (h.noteCharacter l).badCharacter l
  · exact (h.noteCharacter l).modLine l _

theorem probeCharacter (h : Kept s t) (l : Line) (c : ProbeChar) : Kept s (probeCharacter l c t) := by
  have h1 := (h.replyReceived l).blockReceived l
  unfold Machine.probeCharacter
  dsimp only
  split
  · exact h1.openingCharacter ..
  · exact h1.linkError ..
  · exact (h1.modLine l _).blockCharacter ..
  · exact h1.blockCharacter ..
  all_goals exact h1

theorem pdockLevel (h : Kept s t) (l : Line) (b : Bool) : Kept s (pdockLevel l b t) := h.modLine l _

theorem debounceOut (h : Kept s t) (l : Line) : Kept s (debounceOut l t) := by
  unfold Machine.debounceOut
  have h1 := h.modLine l fun y => { y with docked := (t.line l).pdock, debounce := none }
  dsimp only
  split
  · exact h
  · split
    · split <;> [exact h1.modLine l _; exact h1]
    · split <;> [exact h1; exact h1.modLine l _]
    all_goals first
      | exact h1
      | (split <;> [exact h1; exact h1.linkError ..])

theorem powerUpOut (h : Kept s t) (l : Line) : Kept s (powerUpOut l t) := by
  unfold Machine.powerUpOut; split <;> [exact h.modLine l _; exact h]

theorem resetLengthOut (h : Kept s t) (l : Line) : Kept s (resetLengthOut l t) := by
  unfold Machine.resetLengthOut; split <;> [exact h.modLine l _; exact h]

theorem syncOut (h : Kept s t) (l : Line) : Kept s (syncOut l t) := by
  unfold Machine.syncOut; split <;> [exact h.linkError ..; exact h]

theorem openLimitOut (h : Kept s t) (l : Line) : Kept s (openLimitOut l t) := by
  unfold Machine.openLimitOut; split <;> [exact h.linkError ..; exact h]

theorem blockWaitOut (h : Kept s t) (l : Line) : Kept s (blockWaitOut l t) := by
  unfold Machine.blockWaitOut; split <;> [exact h.linkError ..; exact h]

theorem charWaitOut (h : Kept s t) (l : Line) : Kept s (charWaitOut l t) := by
  unfold Machine.charWaitOut; split <;> [exact h.repeatWith ..; exact h]

theorem offOut (h : Kept s t) (l : Line) : Kept s (offOut l t) := by
  unfold Machine.offOut; split <;> [exact h.modLine l _; exact h]

theorem startInspection (h : Kept s t) (b : Bay) (l : Line) (i : Comp) : Kept s (startInspection b l i t) :=
  ((h.modComp i _).setInspection l _).openLine l i

/-! ## Fill lanes -/

theorem closeLane (h : Kept s t) (l : Lane) (o : FillOutcome) : Kept s (closeLane l o t) := by
  unfold Machine.closeLane; split <;> [exact h.modLane l _; exact h]

theorem authorize (h : Kept s t) (l : Lane) (x : FillContext) : Kept s (authorize l x t) :=
  (h.modLane l _).modComp _ _

theorem meterPulse (h : Kept s t) (l : Lane) : Kept s (meterPulse l t) := by
  unfold Machine.meterPulse
  dsimp only
  split
  · exact h
  · split <;> [exact (h.modLane l _).closeLane ..; exact h.modLane l _]
  · exact h.modLane l _

theorem noFlowOut (h : Kept s t) (l : Lane) : Kept s (noFlowOut l t) := by
  unfold Machine.noFlowOut; split <;> [exact h.closeLane ..; exact h]

theorem setArm (h : Kept s t) (l : Lane) (b : Bool) : Kept s (setArm l b t) := h.modLane l _

theorem endFill (h : Kept s t) (l : Lane) : Kept s (endFill l t) := by
  unfold Machine.endFill
  dsimp only
  refine raiseNotice (modLane ?_ l _) ..
  split
  · exact h.reportFill ..
  · exact h

theorem settleOut (h : Kept s t) (l : Lane) : Kept s (settleOut l t) := by
  unfold Machine.settleOut; split <;> [exact h.endFill l; exact h]

end Kept

end Sys2Proof.Machine
end

