-- ==== Sys2Proof/Laws/Requests.lean ====
section
/-! SUPPORT. What taking a request can do: refused it changes the port alone, accepted it is the owner's effect with the port's answer
beside it, and a port that holds another request counts an overrun (R178, R179). -/

namespace Sys2Proof.Machine

open Sys2Proof (Byte Port)

theorem request_exec (k : RequestKind) (r : Request) (s : State) :
    exec (request k r) s = takeRequest k r (k.owner r) s := by
  cases k <;> rfl

theorem answerKind_code (k : RequestKind) : answerKind (byte k.code) = byte (k.code + 0x80) := by
  cases k <;> rfl

theorem live_of_running {s : State} (h : s.resetPin = false) (f : State → State) : live s f = .next (f s) := by
  simp [live, h]

theorem live_of_reset {s : State} (h : s.resetPin = true) (f : State → State) : live s f = .next s := by
  simp [live, h]

/-- A request on a listening port is checked against the port's role and handed to its owner, and is answered with the owner's
reply (R178, R179). -/
theorem takeRequest_listening {s : State} {r : Request} (h : Listening s r.port) (k : RequestKind)
    (owner : State → Taken) :
    takeRequest k r owner s
      = .next (let x := if k.permitted r.port then owner (s.taking k r) else refuse .notPermitted (s.taking k r)
               x.1.answering k r x.2) := by
  have hm : mayTake (byte k.code) r s = true := by simp [mayTake, h.2]
  have ht : holdTaken (byte k.code) r s = s.taking k r := by
    simp [holdTaken, State.taking, h.2, StationPort.seek]
  unfold takeRequest
  rw [live_of_running h.1]
  simp only [serveRequest, serve, hm, if_true, ht, answerWith, answerKind_code, State.answering, State.modPort_eq]

theorem takeRequest_permitted {s : State} {r : Request} (h : Listening s r.port) {k : RequestKind}
    (hp : k.permitted r.port = true) (owner : State → Taken) :
    takeRequest k r owner s
      = .next ((owner (s.taking k r)).1.answering k r (owner (s.taking k r)).2) := by
  rw [takeRequest_listening h]; simp [hp]

/-- A state that the owner left as it was is answered with the result code alone (R179). -/
theorem answering_taking (s : State) (k : RequestKind) (r : Request) (x : ResultCode) (data : List Byte) :
    (s.taking k r).answering k r ⟨x, data⟩ = s.answered k r x data := by
  unfold State.answering State.taking State.answered StationPort.answered
  rw [State.port_setPort_self]
  simp [State.setPort]

theorem takeRequest_refused {s : State} {r : Request} (h : Listening s r.port) {k : RequestKind} {x : ResultCode}
    {owner : State → Taken} (hp : k.permitted r.port = true) (ho : owner (s.taking k r) = refuse x (s.taking k r)) :
    takeRequest k r owner s = .next (s.answered k r x []) := by
  rw [takeRequest_permitted h hp, ho]
  exact congrArg _ (answering_taking s k r x [])

theorem takeRequest_notPermitted {s : State} {r : Request} (h : Listening s r.port) {k : RequestKind}
    (hp : k.permitted r.port = false) (owner : State → Taken) :
    takeRequest k r owner s = .next (s.answered k r .notPermitted []) := by
  rw [takeRequest_listening h]
  simp only [hp]
  exact congrArg _ (answering_taking s k r .notPermitted [])

/-- An owner that answers OK and leaves the state as it was. -/
theorem takeRequest_read {s : State} {r : Request} (h : Listening s r.port) {k : RequestKind} {data : List Byte}
    {owner : State → Taken} (hp : k.permitted r.port = true)
    (ho : owner (s.taking k r) = accept data (s.taking k r)) :
    takeRequest k r owner s = .next (s.answered k r .ok data) := by
  rw [takeRequest_permitted h hp, ho]
  exact congrArg _ (answering_taking s k r .ok data)

/-! ## What a port change keeps -/

/-- A change of one port that keeps its flags in order keeps everything else. -/
theorem notices_setPort {s : State} (h : NoticesOrdered s) (p : Port) (q : StationPort)
    (hq : q.flags.Pairwise fun x y => x.before y = true) : NoticesOrdered (s.setPort p q) := by
  intro p'
  rw [State.port_setPort]
  split
  · exact hq
  · exact h p'

@[simp] theorem taking_comps (s : State) (k : RequestKind) (r : Request) : (s.taking k r).comps = s.comps := rfl
@[simp] theorem taking_tankers (s : State) (k : RequestKind) (r : Request) : (s.taking k r).tankers = s.tankers := rfl
@[simp] theorem taking_matrix (s : State) (k : RequestKind) (r : Request) : (s.taking k r).matrix = s.matrix := rfl
@[simp] theorem taking_limits (s : State) (k : RequestKind) (r : Request) : (s.taking k r).limits = s.limits := rfl
@[simp] theorem taking_recipes (s : State) (k : RequestKind) (r : Request) : (s.taking k r).recipes = s.recipes := rfl
@[simp] theorem taking_staging (s : State) (k : RequestKind) (r : Request) : (s.taking k r).staging = s.staging := rfl
@[simp] theorem taking_settings (s : State) (k : RequestKind) (r : Request) : (s.taking k r).settings = s.settings := rfl
@[simp] theorem taking_yardOpen (s : State) (k : RequestKind) (r : Request) : (s.taking k r).yardOpen = s.yardOpen := rfl
@[simp] theorem taking_bays (s : State) (k : RequestKind) (r : Request) : (s.taking k r).bays = s.bays := rfl
@[simp] theorem taking_channels (s : State) (k : RequestKind) (r : Request) : (s.taking k r).channels = s.channels := rfl
@[simp] theorem taking_plant (s : State) (k : RequestKind) (r : Request) : (s.taking k r).plant = s.plant := rfl
@[simp] theorem taking_lines (s : State) (k : RequestKind) (r : Request) : (s.taking k r).lines = s.lines := rfl
@[simp] theorem taking_inspections (s : State) (k : RequestKind) (r : Request) :
    (s.taking k r).inspections = s.inspections := rfl
@[simp] theorem taking_clock (s : State) (k : RequestKind) (r : Request) : (s.taking k r).clock = s.clock := rfl
@[simp] theorem taking_lanes (s : State) (k : RequestKind) (r : Request) : (s.taking k r).lanes = s.lanes := rfl
@[simp] theorem taking_departures (s : State) (k : RequestKind) (r : Request) :
    (s.taking k r).departures = s.departures := rfl
@[simp] theorem taking_pending (s : State) (k : RequestKind) (r : Request) : (s.taking k r).pending = s.pending := rfl
@[simp] theorem taking_resetPin (s : State) (k : RequestKind) (r : Request) : (s.taking k r).resetPin = s.resetPin := rfl

end Sys2Proof.Machine
end

