-- ==== Sys2Proof/Laws/Readings.lean ====
section
/-! SUPPORT. What comes between the readings of a BOOK or a PARK changes the matrix, the limit table and the ports alone, each as its own
command does; with nothing between them the readings see one state; and what is kept by both is kept by a PARK (R34). -/

namespace Sys2Proof.Machine

open Sys2Proof (Byte Comp Tanker Bay Port CargoClass)

/-- What comes between two readings is the effect of its own command. -/
theorem exec_betweenCommand {s : State} (h : s.resetPin = false) (e : Between) :
    exec (betweenCommand e) s = .next (takeBetween s e) := by
  cases e with
  | writeMatrixRow r => exact live_of_running h (serveRequest .writeMatrixRow r (ownWriteMatrixRow r))
  | writeLimits r => exact live_of_running h (serveRequest .writeLimits r (ownWriteLimits r))
  | answerSent p => exact live_of_running h fun t => t.modPort p StationPort.sent

/-- A request whose owner changes the matrix, the limit table and the ports alone does no more. -/
theorem serveRequest_fields (k : RequestKind) (r : Request) (owner : State → Taken) (s : State)
    (h : ∀ u, ∃ m l p, (owner u).1 = { u with matrix := m, limits := l, ports := p }) :
    ∃ m l p, serveRequest k r owner s = { s with matrix := m, limits := l, ports := p } := by
  unfold serveRequest serve
  split
  · unfold answerWith
    split
    · obtain ⟨m, l, p, e⟩ := h (holdTaken (byte k.code) r s)
      rw [e]
      exact ⟨m, l, _, rfl⟩
    · exact ⟨s.matrix, s.limits, _, rfl⟩
  · exact ⟨s.matrix, s.limits, _, rfl⟩

theorem ownWriteMatrixRow_fields (r : Request) (u : State) :
    ∃ m l p, (ownWriteMatrixRow r u).1 = { u with matrix := m, limits := l, ports := p } := by
  unfold ownWriteMatrixRow
  repeat' split
  all_goals exact ⟨_, u.limits, u.ports, rfl⟩

theorem ownWriteLimits_fields (r : Request) (u : State) :
    ∃ m l p, (ownWriteLimits r u).1 = { u with matrix := m, limits := l, ports := p } := by
  unfold ownWriteLimits
  dsimp only
  repeat' split
  all_goals exact ⟨u.matrix, _, u.ports, rfl⟩

theorem takeBetween_fields (s : State) (e : Between) :
    ∃ m l p, takeBetween s e = { s with matrix := m, limits := l, ports := p } := by
  cases e with
  | writeMatrixRow r => exact serveRequest_fields _ _ _ _ (ownWriteMatrixRow_fields r)
  | writeLimits r => exact serveRequest_fields _ _ _ _ (ownWriteLimits_fields r)
  | answerSent p => exact ⟨s.matrix, s.limits, _, rfl⟩

theorem foldl_takeBetween_fields (l : List Between) (s : State) :
    ∃ m l' p, l.foldl takeBetween s = { s with matrix := m, limits := l', ports := p } := by
  induction l generalizing s with
  | nil => exact ⟨s.matrix, s.limits, s.ports, rfl⟩
  | cons e l ih =>
    obtain ⟨m, l', p, h⟩ := takeBetween_fields s e
    obtain ⟨m2, l2, p2, h2⟩ := ih (takeBetween s e)
    exact ⟨m2, l2, p2, by rw [List.foldl_cons, h2, h]⟩

@[simp] theorem Amid.next_comp (x : Amid) (i : Comp) : x.next.1.comp i = x.1.comp i := by
  obtain ⟨m, l, p, h⟩ := foldl_takeBetween_fields (x.2.headD []) x.1
  show (List.foldl takeBetween x.1 (x.2.headD [])).comp i = _
  rw [h]
  rfl

@[simp] theorem Amid.next_bay (x : Amid) (b : Bay) : x.next.1.bay b = x.1.bay b := by
  obtain ⟨m, l, p, h⟩ := foldl_takeBetween_fields (x.2.headD []) x.1
  show (List.foldl takeBetween x.1 (x.2.headD [])).bay b = _
  rw [h]
  rfl

@[simp] theorem Amid.next_nil (s : State) : Amid.next (s, []) = (s, []) := rfl

/-! ## One record of a PARK -/

theorem queueInNext_skip (b : Bay) {x : Amid} {i : Comp}
    (h : (x.1.comp i).state ≠ .booked ∨ (x.1.comp i).nextClass = none) : queueInNext b x i = x := by
  unfold queueInNext
  dsimp only
  cases hn : (x.1.comp i).nextClass with
  | none => rfl
  | some c =>
    have hs : (x.1.comp i).state ≠ .booked := h.resolve_right (by simp [hn])
    exact if_neg hs

theorem queueInNext_cell (b : Bay) {x : Amid} {i : Comp} {c : CargoClass} (hs : (x.1.comp i).state = .booked)
    (hn : (x.1.comp i).nextClass = some c) (hc : x.next.1.cell (x.1.comp i).lastClass c ≠ .none) :
    queueInNext b x i = (queueInOn (x.next.1.cell (x.1.comp i).lastClass c) b i x.next.1, x.next.2) := by
  simp [queueInNext, hs, hn, hc]

theorem queueInNext_entry (b : Bay) {x : Amid} {i : Comp} {c : CargoClass} (hs : (x.1.comp i).state = .booked)
    (hn : (x.1.comp i).nextClass = some c) (hc : x.next.1.cell (x.1.comp i).lastClass c = .none) :
    queueInNext b x i = (queueInOn .none b i x.next.next.1, x.next.next.2) := by
  simp [queueInNext, hs, hn, hc]

theorem queueInAll_cons (b : Bay) (i : Comp) (l : List Comp) (gaps : List (List Between)) (s : State) :
    queueInAll b (i :: l) gaps s = queueInAll b l (queueInNext b (s, gaps) i).2 (queueInNext b (s, gaps) i).1 := by
  simp [queueInAll]

/-! ## Nothing between the readings -/

theorem queueInNext_nil (b : Bay) (s : State) (i : Comp) :
    queueInNext b (s, []) i = (if (s.comp i).state = .booked then queueIn b i s else s, []) := by
  unfold queueIn
  cases hn : (s.comp i).nextClass with
  | none => rw [queueInNext_skip b (.inr hn)]; simp
  | some c =>
    by_cases hs : (s.comp i).state = .booked
    · by_cases hc : s.cell (s.comp i).lastClass c = .none
      · rw [queueInNext_entry b (x := (s, [])) hs hn hc]; simp [hs, hc]
      · rw [queueInNext_cell b (x := (s, [])) hs hn hc]; simp [hs]
    · rw [queueInNext_skip b (.inl hs)]; simp [hs]

theorem queueInAll_nil (b : Bay) (l : List Comp) (s : State) :
    queueInAll b l [] s = l.foldl (fun t i => if (t.comp i).state = .booked then queueIn b i t else t) s := by
  induction l generalizing s with
  | nil => rfl
  | cons i l ih => rw [queueInAll_cons, queueInNext_nil, ih, List.foldl_cons]

theorem readBarred_nil (ds : List Description) (s : State) :
    readBarred ds (s, []) = (ds.any fun d => d.nextClass.any fun c => decide (s.cell d.lastClass c = .barred), s) := by
  induction ds with
  | nil => rfl
  | cons d ds ih =>
    unfold readBarred
    simp only [Amid.next_nil, ih, List.any_cons]
    cases d.nextClass with
    | none => simp
    | some c => by_cases h : s.cell d.lastClass c = .barred <;> simp [h]

theorem Kept.parkTanker_nil {s t : State} (h : Kept s t) (b : Bay) (i : Tanker) (x : TankerData) :
    Kept s (parkTanker b i x [] t) := by
  unfold parkTanker
  rw [queueInAll_nil]
  exact (((h.setTanker i _).modBay b _).foldl _
    (fun u k => by split <;> [exact (Kept.refl u).queueIn b k; exact Kept.refl u]) _).oweAttempt b

/-! ## What a PARK keeps -/

/-- What every command between the readings keeps, and every queue-in of a BOOKED record whose next class is present, a PARK's queue-ins
keep. -/
theorem queueInAll_keeps (P : State → Prop) (between : ∀ u e, P u → P (takeBetween u e))
    (queued : ∀ u cell b i next, P u → (u.comp i).state = .booked → (u.comp i).nextClass = some next → P (queueInOn cell b i u))
    (b : Bay) (l : List Comp) (gaps : List (List Between)) (s : State) (h : P s) : P (queueInAll b l gaps s) := by
  have nextKeeps : ∀ x : Amid, P x.1 → P x.next.1 := by
    intro x hx
    show P (List.foldl takeBetween x.1 (x.2.headD []))
    generalize x.2.headD [] = es
    revert hx
    generalize x.1 = u
    induction es generalizing u with
    | nil => exact id
    | cons e es ih => exact fun hu => ih _ (between u e hu)
  have one : ∀ (x : Amid) (i : Comp), P x.1 → P (queueInNext b x i).1 := by
    intro x i hx
    by_cases hs : (x.1.comp i).state = .booked
    · cases hn : (x.1.comp i).nextClass with
      | none => rwa [queueInNext_skip b (.inr hn)]
      | some c =>
        by_cases hc : x.next.1.cell (x.1.comp i).lastClass c = .none
        · rw [queueInNext_entry b hs hn hc]
          exact queued _ .none b i c (nextKeeps _ (nextKeeps _ hx)) (by simpa using hs) (by simpa using hn)
        · rw [queueInNext_cell b hs hn hc]
          exact queued _ _ b i c (nextKeeps _ hx) (by simpa using hs) (by simpa using hn)
    · rwa [queueInNext_skip b (.inl hs)]
  unfold queueInAll
  suffices all : ∀ x : Amid, P x.1 → P (l.foldl (queueInNext b) x).1 from all (s, gaps) h
  induction l with
  | nil => exact fun _ hx => hx
  | cons i l ih => exact fun x hx => ih _ (one x i hx)

end Sys2Proof.Machine
end

