-- ==== Sys2Proof/Laws/Releases.lean ====
section
/-! SUPPORT. A pass hands its grants to their channels, a release is a pass of the state without its grant, and entering RUNNING or
stopping leaves the arbiter alone (R83, R105, R106, R112). -/

namespace Sys2Proof.Machine

open Sys2Proof (Chan Bay Comp Port)

/-! ## Several heads changed in the same way -/

theorem modHeads_nil (f : WashChannel → WashChannel) (s : State) : modHeads [] f s = s := rfl

theorem modHeads_cons (c : Chan) (l : List Chan) (f : WashChannel → WashChannel) (s : State) :
    modHeads (c :: l) f s = modHeads l f (s.modChan c f) := rfl

theorem modHeads_plant (l : List Chan) (f : WashChannel → WashChannel) (s : State) : (modHeads l f s).plant = s.plant := by
  induction l generalizing s with
  | nil => rfl
  | cons c l ih => rw [modHeads_cons, ih]; rfl

theorem modHeads_permit (l : List Chan) (f : WashChannel → WashChannel) (s : State) :
    (modHeads l f s).permit = s.permit := by
  induction l generalizing s with
  | nil => rfl
  | cons c l ih => rw [modHeads_cons, ih]; rfl

theorem chan_modChan (s : State) (c d : Chan) (f : WashChannel → WashChannel) :
    (s.modChan c f).chan d = if d = c then f (s.chan c) else s.chan d := by
  show (put s.channels c _)[d] = _
  rw [put_get]
  rfl

theorem modHeads_binding (l : List Chan) (f : WashChannel → WashChannel) (hf : ∀ y, (f y).binding = y.binding) (s : State)
    (d : Chan) : ((modHeads l f s).chan d).binding = (s.chan d).binding := by
  induction l generalizing s with
  | nil => rfl
  | cons c l ih =>
    rw [modHeads_cons, ih, chan_modChan]
    split <;> [(rename_i h; rw [hf, h]); rfl]

theorem headsOf_eq {s t : State} {c : Chan} (h : (t.chan c).binding = (s.chan c).binding) : headsOf t c = headsOf s c := by
  unfold headsOf isPair
  rw [h]

theorem modChan_modChan (s : State) (c : Chan) (f g : WashChannel → WashChannel) :
    (s.modChan c f).modChan c g = s.modChan c (g ∘ f) := by
  simp [State.modChan, State.setChan, State.chan, put]

theorem modChan_comm (s : State) {c d : Chan} (h : c ≠ d) (f g : WashChannel → WashChannel) :
    (s.modChan c f).modChan d g = (s.modChan d g).modChan c f := by
  have e1 : (s.modChan c f).chan d = s.chan d := by rw [chan_modChan, if_neg h.symm]
  have e2 : (s.modChan d g).chan c = s.chan c := by rw [chan_modChan, if_neg h]
  unfold State.modChan at *
  rw [e1, e2]
  simp only [State.setChan, put]
  rw [Vector.set_comm _ _ fun h' => h (Fin.ext h')]

theorem modHeads_headsOf (s t : State) (c : Chan) (f g : WashChannel → WashChannel) :
    modHeads (headsOf s c) g (modHeads (headsOf s c) f t) = modHeads (headsOf s c) (g ∘ f) t := by
  have apart : headB (bayOf c) ≠ headA (bayOf c) := by simp [headA, headB, Fin.ext_iff]
  unfold headsOf
  split <;> simp only [modHeads_cons, modHeads_nil]
  · rw [modChan_comm _ apart, modChan_modChan, modChan_modChan]
  · rw [modChan_modChan]

/-! ## Entering RUNNING -/

theorem entered_plant (s : State) (c : Chan) : (s.entered c).plant = s.plant := modHeads_plant _ _ _

theorem entered_permit (s : State) (c : Chan) : (s.entered c).permit = s.permit := modHeads_permit _ _ _

/-- A channel or pair that enters RUNNING stands at the start of a pass, and is judged there where the permit is deasserted. -/
theorem enterRunning_eq (c : Chan) (s : State) :
    enterRunning c s = if s.permit = true then (s.entered c, []) else judgeNoPermit c (s.entered c) := by
  have start : startPass c (modHeads (headsOf s c) (fun x => { x with state := .running }) s) = s.entered c := by
    unfold startPass State.entered
    rw [headsOf_eq (s := s) (modHeads_binding _ _ (by simp) _ _), modHeads_headsOf]
    rfl
  unfold enterRunning
  simp only [start, entered_permit]

/-! ## Stopping -/

theorem reportStopped_plant (i : Comp) (c : Chan) (w : Reason) (s : State) : (reportStopped i c w s).plant = s.plant := by
  unfold reportStopped; split <;> rfl

theorem endStopping_plant (c : Chan) (s : State) : (endStopping c s).plant = s.plant := by
  unfold endStopping; dsimp only; split <;> rfl

theorem stopHead_plant (s : State) (x : Chan × Reason) : (stopHead s x).plant = s.plant := by
  have report : ((s.chan x.1).binding.elim s fun b => reportStopped b.comp x.1 x.2 s).plant = s.plant := by
    cases (s.chan x.1).binding with
    | none => rfl
    | some b => exact reportStopped_plant ..
  unfold stopHead
  dsimp only
  split
  · rw [endStopping_plant]; split <;> exact report
  · split <;> exact report

theorem stopHeads_plant (l : List (Chan × Reason)) (s : State) : (stopHeads l s).plant = s.plant := by
  unfold stopHeads
  induction l generalizing s with
  | nil => rfl
  | cons x l ih => rw [List.foldl_cons, ih, stopHead_plant]

theorem judgeNoPermit_plant (c : Chan) (s : State) : (judgeNoPermit c s).1.plant = s.plant := by
  unfold judgeNoPermit
  split
  · rfl
  · split
    · exact modHeads_plant _ _ _
    · split <;> [exact stopHeads_plant _ _; rfl]

/-! ## Grants handed over -/

theorem handGrant_plant (c : Chan) (s : State) : (handGrant c s).1.plant = s.plant := by
  unfold handGrant
  split
  · rw [enterRunning_eq]
    split <;> [exact entered_plant _ _; rw [judgeNoPermit_plant, entered_plant]]
  · rfl

theorem handGrants_plant (l : List Chan) (s : State) : (handGrants l s).1.plant = s.plant := by
  induction l generalizing s with
  | nil => rfl
  | cons c l ih => simp only [handGrants]; rw [ih, handGrant_plant]

/-- With the permit asserted no grant is released again. -/
theorem handGrants_permit (l : List Chan) (s : State) (h : s.permit = true) :
    handGrants l s = (l.foldl (fun t c => if (t.chan c).state = .claiming then t.entered c else t) s, []) := by
  induction l generalizing s with
  | nil => rfl
  | cons c l ih =>
    simp only [handGrants, List.foldl_cons]
    unfold handGrant
    rw [enterRunning_eq]
    split
    · simp only [List.nil_append]
      rw [ih _ (by rw [entered_permit, h])]
    · rw [ih _ h]; simp

theorem handGrants_fold (l : List Chan) (s : State) (before : List Chan) :
    l.foldl
        (fun u c =>
          if (u.1.chan c).state = .claiming then
            if u.1.permit = true then (u.1.entered c, u.2)
            else ((judgeNoPermit c (u.1.entered c)).1, u.2 ++ (judgeNoPermit c (u.1.entered c)).2)
          else u)
        (s, before)
      = ((handGrants l s).1, before ++ (handGrants l s).2) := by
  induction l generalizing s before with
  | nil => simp [handGrants]
  | cons c l ih =>
    simp only [List.foldl_cons, handGrants]
    unfold handGrant
    rw [enterRunning_eq]
    split
    · split <;> (rw [ih]; simp)
    · rw [ih]; simp

/-- The statements' word for a pass with its grants handed over is the model's pass. -/
theorem handed_eq_makePass (s : State) : s.handed = makePass s := by
  unfold State.handed makePass
  simp only [handGrants_fold]
  simp

theorem arbitrate_handed (s : State) : arbitrate s = takeReleases 8 s.handed.2 s.handed.1 := by
  rw [handed_eq_makePass]; rfl

theorem handed_plant (s : State) : s.handed.1.plant = (s.plant.pass (s.setting .skipLimit)).1 := by
  rw [handed_eq_makePass]
  unfold makePass
  simp only [handGrants_plant]
  rfl

/-! ## Releases -/

@[simp] theorem takeReleases_nil (n : Nat) (s : State) : takeReleases n [] s = s := by cases n <;> rfl

theorem takeReleases_none {c : Chan} {s : State} (h : s.plant.grants[c] = none) (n : Nat) (rest : List Chan) :
    takeReleases (n + 1) (c :: rest) s = takeReleases n rest s := by
  show (if (s.plant.grants[c]).isSome then _ else _) = _
  rw [h]; rfl

theorem takeReleases_grant {c : Chan} {s : State} (h : s.plant.grants[c] ≠ none) (n : Nat) (rest : List Chan) :
    takeReleases (n + 1) (c :: rest) s
      = takeReleases n (rest ++ (makePass (s.setPlant (s.plant.setGrant c none))).2)
          (makePass (s.setPlant (s.plant.setGrant c none))).1 := by
  show (if (s.plant.grants[c]).isSome then _ else _) = _
  rw [if_pos (Option.isSome_iff_ne_none.2 h)]

/-- A release is the pass of the state with that grant cleared. -/
theorem releaseGrant_eq {c : Chan} {s : State} (h : s.plant.grants[c] ≠ none) :
    releaseGrant c s = arbitrate (s.setPlant (s.plant.setGrant c none)) := by
  unfold releaseGrant
  rw [takeReleases_grant h]
  rfl

theorem withdrawClaim_eq {c : Chan} {s : State} (h : s.plant.claims[c] ≠ none) :
    withdrawClaim c s = arbitrate (s.setPlant (s.plant.setClaim c none)) := by
  unfold withdrawClaim
  rw [if_pos (Option.isSome_iff_ne_none.2 h)]

theorem giveBack_grant {c : Chan} {s : State} (h : s.plant.grants[c] ≠ none) : giveBack c s = releaseGrant c s := by
  unfold giveBack
  rw [if_pos (Option.isSome_iff_ne_none.2 h)]

theorem giveBack_none {c : Chan} {s : State} (h : s.plant.grants[c] = none) : giveBack c s = withdrawClaim c s := by
  unfold giveBack
  rw [h]
  rfl

end Sys2Proof.Machine
end

