-- ==== Sys2Proof/WellFormed.lean ====
section
/-! DEFINITION. The checks a command's operands meet beyond their types. -/

namespace Sys2Proof

/-- A request frame carries at most 58 payload bytes (R187). -/
def Request.wf (r : Request) : Bool := decide (r.payload.length ≤ Config.maxRequestPayload)

/-- What comes between two readings carries a frame that fits. -/
def Between.wf : Between → Bool
  | .writeMatrixRow r | .writeLimits r => r.wf
  | .answerSent _ => true

/-- A request that reads several cells, with the frames that come between its readings. -/
def ReadingRequest.wf (x : ReadingRequest) : Bool := x.request.wf && x.between.all fun l => l.all Between.wf

/-- A kind byte that names no request of the catalogue: 00h or 37h..FFh (R179). -/
def badKind (k : Byte) : Bool := decide (k.toNat = 0 ∨ 0x37 ≤ k.toNat)

/-- Well-formed commands: payloads within a frame, also of what comes between two readings, a bad kind that is bad, and lists of channels
that name none twice. -/
def Instr.wf : Instr → Bool
  | .setNextClass r | .dispose r | .withdraw r | .depart r | .takeDeparture r
  | .readCompartment r | .readTanker r | .writeMatrixRow r | .readMatrixRow r | .writeLimits r
  | .readLimits r | .openYard r | .clearStaging r | .writeStagingStep r | .setStagingRounds r
  | .loadStaging r | .readStaging r | .commitRecipe r | .eraseRecipe r | .readRecipe r
  | .unpark r | .expedite r | .requestDispatch r | .cancelBinding r | .readBay r
  | .startRun r | .startRehearsal r | .abortRun r | .clearFault r | .serviceEnter r
  | .serviceLatch r | .serviceClaim r | .serviceRelease r | .serviceExit r | .channelStatus r
  | .setHotCapacity r | .setTokenAllowance r | .setPriorityScheme r | .readArbiter r
  | .lineStatus r | .inspect r | .cancelInspect r | .readClock r | .authorizeFill r
  | .stopFill r | .laneStatus r | .fetchNotice r | .setNoticeMask r | .portStatus r
  | .setYard r | .readYard r | .yardReset r => r.wf
  | .book x | .park x => x.wf
  | .badKindRequest k r => badKind k && r.wf
  | .dischargePermitDrop d => decide (d.order.Nodup ∧ d.met.Nodup)
  | .dispatchAttempt _ | .powerOnReset _ | .frameDropped _ _ | .gapTimeout _ | .frameOverrun _
  | .answerSent _ | .secondTick _ | .minuteTick | .refresh | .passTimerExpiry _
  | .runningTimeExpiry _ | .flowMeterPulse _ | .guardExpiry _ | .dischargePermitReturn
  | .pauseLimitExpiry _ | .headInDrop _ | .headInRise _ | .drainDownExpiry _ | .pdockChange _ _
  | .dockDebounceExpiry _ | .powerUpExpiry _ | .resetLengthExpiry _ | .syncTimeout _
  | .openLimitExpiry _ | .probeCharacterReceived _ _ | .openingReply _ | .blockSendStart _
  | .characterSent _ _ | .blockWaitExpiry _ | .charWaitExpiry _ | .blockReceived _
  | .offTimerExpiry _ | .laneMeterPulse _ | .noFlowExpiry _ | .armDrop _ | .armRise _
  | .settleExpiry _ | .portCharacterReceived _ _ | .resetPinAsserted => true

end Sys2Proof
end

