-- ==== Sys2Proof/Tests/Slice0.lean ====
section
/-! SUPPORT. The model's own tests: what the well-formedness check refuses, small steps taken by hand from the spec's rules, and for each
statement a concrete state and operands that meet its hypotheses. -/

set_option Elab.async false

namespace Sys2Proof.Tests

open Sys2Proof Sys2Proof.Machine

/-! ## Well-formedness: one ill-formed command for each check -/

theorem test_wf_payload :
    (Instr.book ⟨⟨0, 0, List.replicate 58 0⟩, []⟩).wf = true ∧ (Instr.book ⟨⟨0, 0, List.replicate 59 0⟩, []⟩).wf = false := by decide +kernel

theorem test_wf_between :
    (Instr.park ⟨⟨2, 0, [2]⟩, [[.writeLimits ⟨0, 0, List.replicate 58 0⟩]]⟩).wf = true
      ∧ (Instr.park ⟨⟨2, 0, [2]⟩, [[.writeLimits ⟨0, 0, List.replicate 59 0⟩]]⟩).wf = false := by decide +kernel

theorem test_wf_bad_kind :
    (Instr.badKindRequest 0 ⟨0, 0, []⟩).wf = true ∧ (Instr.badKindRequest 0x37 ⟨0, 0, []⟩).wf = true
      ∧ (Instr.badKindRequest 0x36 ⟨0, 0, []⟩).wf = false := by decide +kernel

theorem test_wf_order :
    (Instr.dischargePermitDrop ⟨[0, 1], [2]⟩).wf = true ∧ (Instr.dischargePermitDrop ⟨[1, 1], []⟩).wf = false
      ∧ (Instr.dischargePermitDrop ⟨[], [3, 3]⟩).wf = false := by decide +kernel

theorem test_no_word_spells_a_command :
    decodeTableWord 8 1 = none ∧ State.reset.withFetchWord 8 1 = State.reset := ⟨rfl, rfl⟩

/-! ## A small yard -/

/-- A request with tag 07h. -/
def ask (p : Port) (payload : List Byte) : Request := ⟨p, 7, payload⟩

/-- The state after a command. -/
def after (c : Instr) (s : State) : State :=
  match exec c s with
  | .next t => t
  | .fault _ | .refused _ => s

/-- The payload of the answer that a port gives to a command. -/
def answerTo (c : Instr) (p : Port) (s : State) : Option (List Byte) := ((after c s).port p).answer.map fun a => a.payload

/-- A record of position `k + 1`, capacity 1000 litres, last class 3 and next class 5. -/
def record (x : Lifecycle) (t : Tanker) (k : Nat) : CompartmentRecord :=
  { CompartmentRecord.freed with
    state := x, tanker := t, position := k + 1, capacity := 1000, hatches := 1, lastClass := 3, nextClass := some 5 }

/-- A timed step with hot water and detergent, a demand step with steam, a metered cold step. -/
def timedStep : RecipeStep := ⟨.hot, true, true, 2, .timed, 10, 1, 0⟩
def demandStep : RecipeStep := ⟨.steam, false, false, 0, .demand, 5, 0, 0⟩
def meteredStep : RecipeStep := ⟨.cold, false, true, 0, .metered, 20, 0, 10⟩

/-- Slot 1 of the small yard. -/
def sampleRecipe : Recipe := ⟨2, [timedStep, demandStep, meteredStep]⟩

/-- An open yard: slot 1 holds the sample recipe, cell (3, 5) names it, cell (5, 6) is NONE. A tanker of fleet number 100 is parked in
bay 1 with records 1..4, QUEUED, QUEUED, INSPECT_WAIT and HELD; one of fleet number 200 is present with records 5..8, CLEARED, FILLING in lane
L1, BOOKED and WITHDRAWN. Line PA is docked, the permit and the wash heads are in, and both arms are in place. -/
def yard : State :=
  { State.reset with
    yardOpen := true, permit := true
    recipes := State.reset.recipes.set 0 (some sampleRecipe)
    matrix := (State.reset.matrix.set 3 ((State.reset.matrix[3]).set 5 (.slot 0))).set 5 ((State.reset.matrix[5]).set 6 .none)
    limits := State.reset.limits.set 4 ⟨⟨100, 200, 300, 50⟩, false⟩
    tankers :=
      (State.reset.tankers.set 0 (some ⟨100, [0, 1, 2, 3], 0, some 0⟩)).set 1 (some ⟨200, [4, 5, 6, 7], 0, none⟩)
    comps :=
      (((((((State.reset.comps.set 0 { record .queued 0 0 with plan := some ⟨0, 0⟩ }).set 1
        { record .queued 0 1 with plan := some ⟨0, 0⟩, hatches := 2 }).set 2 (record .inspectWait 0 2)).set 3
        { record .held 0 3 with hold := some (.washFault .flowShort), plan := some ⟨0, 1⟩ }).set 4
        { record .cleared 1 0 with cert := some ⟨1, 0, 5, 0⟩ }).set 5
        { record .filling 1 1 with cert := some ⟨2, 0, 5, 200⟩ }).set 6 (record .booked 1 2)).set 7
        (record .withdrawn 1 3)
    bays := State.reset.bays.set 0 { twoHead := true, parked := some 0, queue := [0, 1], owed := 1 }
    channels := Vector.replicate 8 (WashChannel.afterReset .idle true)
    lines := State.reset.lines.set 0 { ProbeLine.powerOn true with state := .docked, docked := true, debounce := none }
    lanes :=
      #v[{ FillLane.powerOn true with state := .active, context := some ⟨5, 5, 100⟩, counter := 99, compare := 100 },
         FillLane.powerOn true]
    certCounter := 3 }

/-- The small yard with one record, one channel, one probe line or one lane replaced. -/
def withRecord (i : Comp) (x : CompartmentRecord) : State := yard.setComp i x
def withChannel (c : Chan) (x : WashChannel) : State := yard.setChan c x

/-- Channel 1 or 2 of the small yard washing record 1 in a state, with a run of slot 1 at a step. -/
def busyHead (x : ChannelState) (k passes : Nat) : WashChannel :=
  { WashChannel.afterReset x true with
    binding := some ⟨0, .single⟩, run := some ⟨0, k, passes, 0, 0, 0⟩ }

/-- The small yard with record 1 WASHING on channel 1, in a state and a step of its run. -/
def washing (x : ChannelState) (k passes : Nat) : State :=
  ((yard.setComp 0 { record .washing 0 0 with plan := some ⟨0, 0⟩, binding := some (.single 0) }).setChan 0
    (busyHead x k passes)).setBay 0 { twoHead := true, parked := some 0, queue := [1], owed := 0 }

/-! ## Steps, resets and the reset pin -/

theorem test_step_runs_the_front :
    step { yard with pending := [.secondTick false, .minuteTick] }
      = exec (.secondTick false) { yard with pending := [.minuteTick] } := rfl

theorem test_step_idles :
    yard.pending = [] ∧ yard.resetPin = false
      ∧ step yard = .next { yard with clock := { yard.clock with period := 1 } }
      ∧ step { yard with clock := { yard.clock with period := 15999999 } }
          = .next { yard with clock := { yard.clock with period := 15999999 } }
      ∧ step { yard with resetPin := true } = .next { yard with resetPin := true } := ⟨rfl, rfl, rfl, rfl, rfl⟩

theorem test_power_on_one_head :
    ((after (.powerOnReset ⟨#v[false, true, true, true], 2⟩) yard).chan 1).state = .unfitted
      ∧ (after (.powerOnReset ⟨#v[false, true, true, true], 2⟩) yard).portRate = 2
      ∧ ((after (.powerOnReset ⟨#v[false, true, true, true], 2⟩) yard).line 0).debounce = some 50
      ∧ ((after (.powerOnReset ⟨#v[false, true, true, true], 2⟩) yard).lane 0).arm = true := by decide +kernel

theorem test_reset_pin :
    ({ yard with resetPin := true } : State).resetPin = true ∧ takenInReset .minuteTick = false
      ∧ ((after (.laneMeterPulse 0) { yard with resetPin := true }).lane 0).counter = 99
      ∧ valveOpen yard 0 = true ∧ valveOpen (after .resetPinAsserted yard) 0 = false
      ∧ ((after (.armDrop 0) { yard with resetPin := true }).lane 0).state = .active := by decide +kernel

theorem test_yard_resets :
    Asked yard .yardReset (ask 0 [1]) ∧ Asked yard .yardReset (ask 0 [2])
      ∧ ((after (.yardReset (ask 0 [1])) yard).comp 5).state = .filled
      ∧ ((after (.yardReset (ask 0 [1])) yard).comp 5).fill = some ⟨0, 5, 100, 99, .interrupted⟩
      ∧ ((after (.yardReset (ask 0 [1])) (washing .running 1 0)).comp 0).hold = some .interrupted
      ∧ ((after (.yardReset (ask 0 [1])) yard).port 0).flags = [⟨4, 6⟩]
      ∧ (after (.yardReset (ask 0 [0])) yard).yardOpen = false
      ∧ ((after (.yardReset (ask 0 [0])) yard).bay 0).queue = []
      ∧ ((after (.yardReset (ask 0 [1])) (yard.modLine 0 fun x => { x with pdock := true })).line 0).pdock = true
      ∧ answerTo (.yardReset (ask 0 [2])) 0 yard = some [3] := by decide +kernel

theorem test_witness_LanesServe : LanesServe yard := by
  have h1 : ∀ l : Lane, (yard.lane l).state = .idle ↔ (yard.lane l).context = none := by decide +kernel
  have h2 : ∀ l : Lane, (yard.lane l).state = .settling → (yard.lane l).cause.isSome = true := by decide +kernel
  have h3 : ∀ l : Lane, ∀ x ∈ (yard.lane l).context, (yard.comp x.comp).state = .filling := by decide +kernel
  have h4 : ∀ i : Comp, (yard.comp i).state = .filling → i = 5 := by decide +kernel
  have h5 : ∀ l m : Lane, ∀ x ∈ (yard.lane l).context, ∀ y ∈ (yard.lane m).context, x.comp = y.comp → l = m := by
    decide +kernel
  exact ⟨h1, h2, fun l x h => h3 l x h, fun i h => ⟨0, ⟨5, 5, 100⟩, rfl, (h4 i h).symm⟩,
    fun l m x y hx hy => h5 l m x hx y hy⟩

/-! ## Requests, frames and notices -/

theorem test_every_request_can_be_asked :
    (∀ p : Port, Listening yard p) ∧ ∀ k ∈ RequestKind.all, ∃ p : Port, k.permitted p = true := by decide +kernel

theorem test_permission :
    RequestKind.park ∈ (portRole 1).column ∧ RequestKind.park ∉ (portRole 0).column ∧ Listening yard 0
      ∧ answerTo (.park ⟨ask 0 [2], []⟩) 0 yard = some [2] ∧ RequestKind.park.code = 0x16 := by decide +kernel

/-- The small yard whose Office port holds a request with tag 07h. -/
def holding (kind : Byte) (payload : List Byte) (taken : Bool) : State :=
  yard.setPort 0 { StationPort.powerOn with held := some ⟨kind, 7, payload, taken⟩, overrunCount := 254 }

theorem test_held_requests :
    ((holding 0x0D [] false).port 0).held = some ⟨0x0D, 7, [], false⟩ ∧ RequestKind.openYard.permitted 0 = true
      ∧ answerTo (.openYard (ask 0 [])) 0 (holding 0x0D [] false) = some [0]
      ∧ ((after (.openYard (ask 0 [])) (holding 0x0D [] true)).port 0).overrunCount = 255
      ∧ ((after (.frameOverrun 0) (after (.frameOverrun 0) (holding 0x0D [] true))).port 0).overrunCount = 255 := by
  decide +kernel

theorem test_bad_kinds :
    Listening yard 3 ∧ ((after (.badKindRequest 0 (ask 3 [])) yard).port 3).answer = some ⟨0x80, 7, [1]⟩
      ∧ ((after (.badKindRequest 0x37 (ask 3 [])) yard).port 3).answer = some ⟨0xB7, 7, [1]⟩
      ∧ ((after (.badKindRequest 0x7F (ask 3 [])) yard).port 3).answer = some ⟨0xFF, 7, [1]⟩
      ∧ ((after (.badKindRequest 0x80 (ask 3 [])) yard).port 3).answer = some ⟨0xFF, 7, [1]⟩
      ∧ ((after (.badKindRequest 0xFF (ask 3 [])) yard).port 3).answer = some ⟨0xFF, 7, [1]⟩ := by decide +kernel

/-- A port in a receiver state with these bytes of a frame. -/
def receiving (x : ReceiverState) (b : List Byte) : State :=
  yard.setPort 0 { StationPort.powerOn with receiver := x, buffer := b, gapRunning := true }

theorem test_receiver_counts_lengths :
    yard.resetPin = false
      ∧ ((after (.portCharacterReceived 0 ⟨0xD3, false⟩) yard).port 0).receiver = .length
      ∧ ((after (.portCharacterReceived 0 ⟨0x16, false⟩) yard).port 0).receiver = .seeking
      ∧ ((after (.portCharacterReceived 0 ⟨1, false⟩) (receiving .length [0xD3])).port 0).lengthCount = 1
      ∧ ((after (.portCharacterReceived 0 ⟨2, false⟩) (receiving .length [0xD3])).port 0).receiver = .body
      ∧ ((after (.portCharacterReceived 0 ⟨60, false⟩) (receiving .length [0xD3])).port 0).receiver = .body
      ∧ ((after (.portCharacterReceived 0 ⟨61, false⟩) (receiving .length [0xD3])).port 0).lengthCount = 1
      ∧ ((after (.portCharacterReceived 0 ⟨9, true⟩) (receiving .length [0xD3])).port 0).checkCount = 1
      ∧ ((after (.portCharacterReceived 0 ⟨9, false⟩) (receiving .body [0xD3, 2, 0x0D])).port 0).receiver = .check
      ∧ ((after (.portCharacterReceived 0 ⟨9, false⟩) (receiving .body [0xD3, 3, 0x0D])).port 0).receiver = .body := by
  decide +kernel

theorem test_frame_of_port_status :
    frameBytes 0x33 7 [] = [0xD3, 2, 0x33, 7] ++ word2 (portCrc [2, 0x33, 7]).toNat
      ∧ ((frameBytes 0x33 7 []).foldl (fun x b => x.receive ⟨b, false⟩) StationPort.powerOn).held
          = some ⟨0x33, 7, [], false⟩
      ∧ (([0xD3, 2, 0x33, 7, 0, 0] : List Byte).foldl (fun x b => x.receive ⟨b, false⟩) StationPort.powerOn).checkCount
          = 1 := by decide +kernel

/-- The CRC bytes were computed outside the model. -/
theorem test_frame_written_out :
    frameBytes 0x33 7 [] = [0xD3, 2, 0x33, 7, 0xF4, 0xF2] ∧ portCrc [] = 0
      ∧ portCrc [0x31, 0x32, 0x33, 0x34, 0x35, 0x36, 0x37, 0x38, 0x39] = 0xBB3D := by decide +kernel

/-- A PORT_STATUS whose last character arrives is taken at once; a later overrun is counted after its clearing. -/
theorem test_port_status_by_characters :
    let s := receiving .check [0xD3, 2, 0x33, 7, 0xF4]
    let t := after (.portCharacterReceived 0 ⟨0xF2, false⟩) s
    t.port 0 = (after (.portStatus (ask 0 [])) yard).port 0 ∧ ((after (.frameOverrun 0) t).port 0).overrunCount = 1
      ∧ ((after (.portCharacterReceived 0 ⟨0xF3, false⟩) s).port 0).checkCount = 1 := by decide +kernel

theorem test_frames_dropped_and_answers_sent :
    (yard.port 0).answer = none ∧ (after (.answerSent 0) yard).port 0 = yard.port 0
      ∧ (after (.gapTimeout 0) yard).port 0 = yard.port 0
      ∧ ((after (.gapTimeout 0) (receiving .body [0xD3, 2])).port 0).gapCount = 1
      ∧ ((after (.frameDropped 0 .badLength) yard).port 0).lengthCount = 1
      ∧ ((after (.frameDropped 0 .crcMismatch) yard).port 0).checkCount = 1
      ∧ ((after (.answerSent 0) (after (.openYard (ask 0 [])) yard)).port 0).held = none := by decide +kernel

theorem test_common_checks :
    RequestKind.setTokenAllowance.payloadLength = some 3 ∧ answerTo (.setTokenAllowance (ask 0 [1, 2])) 0 yard = some [3]
      ∧ answerTo (.park ⟨ask 1 [], []⟩) 1 { yard with yardOpen := false } = some [15]
      ∧ answerTo (.serviceEnter (ask 0 [0])) 0 yard = some [3] ∧ answerTo (.serviceEnter (ask 0 [9])) 0 yard = some [3]
      ∧ answerTo (.serviceEnter (ask 1 [3])) 1 yard = some [2]
      ∧ answerTo (.serviceEnter (ask 1 [1])) 1 (yard.setChan 0 (WashChannel.afterReset .unfitted true)) = some [12] := by
  decide +kernel

/-- The Office port with three notices pending, kind 1 masked or not. -/
def noticed (mask : Bool) : State :=
  yard.setPort 0
    { StationPort.powerOn with flags := [⟨1, 4⟩, ⟨3, 2⟩, ⟨3, 96⟩], masks := #v[mask, false, false, false, false] }

theorem test_fetch_notice :
    NoticesOrdered (noticed true) ∧ (∃ n ∈ ((noticed true).port 0).flags, ((noticed true).port 0).masked n.kind = false)
      ∧ answerTo (.fetchNotice (ask 0 [])) 0 (noticed true) = some [0, 3, 2]
      ∧ answerTo (.fetchNotice (ask 0 [])) 0 (noticed false) = some [0, 1, 4]
      ∧ (∀ n ∈ (yard.port 0).flags, (yard.port 0).masked n.kind = true)
      ∧ answerTo (.fetchNotice (ask 0 [])) 0 yard = some [0, 0, 0] := by
  unfold NoticesOrdered
  decide +kernel

theorem test_masks_and_status :
    answerTo (.setNoticeMask (ask 0 [0, 1])) 0 yard = some [3] ∧ answerTo (.setNoticeMask (ask 0 [5, 1])) 0 yard = some [0]
      ∧ answerTo (.setNoticeMask (ask 0 [6, 1])) 0 yard = some [3]
      ∧ answerTo (.setNoticeMask (ask 1 [5, 1])) 1 yard = some [3]
      ∧ answerTo (.setNoticeMask (ask 5 [2, 1])) 5 yard = some [3]
      ∧ answerTo (.setNoticeMask (ask 5 [1, 2])) 5 yard = some [3]
      ∧ attn (noticed true) 0 = true ∧ attn yard 0 = false
      ∧ answerTo (.portStatus (ask 0 [])) 0 (noticed true)
          = some [0, 0, 0, 0, 0, 0, 0, 0, 0, 1, 0, 0, 0, 0, 2, 0, 1] := by decide +kernel

/-! ## Configuration store -/

theorem test_yard_open :
    RequestKind.book ∈ openOnly ∧ (yard.yardOpen = true ∧ State.reset.yardOpen = false)
      ∧ Asked State.reset .book (ask 0 []) ∧ answerTo (.book ⟨ask 0 [], []⟩) 0 State.reset = some [15]
      ∧ answerTo (.book ⟨ask 0 [], []⟩) 0 yard = some [3]
      ∧ (after (.openYard (ask 0 [])) State.reset).yardOpen = true := by decide +kernel

/-- A matrix row all BARRED but for one cell. -/
def rowWith (c : CargoClass) (x : Cell) : Vector Cell 32 := (Vector.replicate 32 Cell.barred).set c.val x

/-- The payload that carries a row. -/
def rowBytes (row : Byte) (cells : Vector Cell 32) : List Byte := row :: cells.toList.map fun x => byte x.code

theorem test_matrix_rows :
    (∀ (c : CargoClass) (x : RecipeSlot), (rowWith 0 (.slot 0))[c] = .slot x → yard.recipe x ≠ none)
      ∧ answerTo (.writeMatrixRow (ask 0 (rowBytes 31 (rowWith 0 (.slot 0))))) 0 yard = some [0]
      ∧ answerTo (.writeMatrixRow (ask 0 (rowBytes 31 (rowWith 0 (.slot 1))))) 0 yard = some [3]
      ∧ answerTo (.writeMatrixRow (ask 0 (rowBytes 32 (rowWith 0 .none)))) 0 yard = some [3]
      ∧ answerTo (.writeMatrixRow (ask 0 (0 :: List.replicate 31 16 ++ [17]))) 0 yard = some [3]
      ∧ ((answerTo (.readMatrixRow (ask 0 [3])) 0 yard).getD []).take 7 = [0, 16, 16, 16, 0, 16, 1]
      ∧ answerTo (.readMatrixRow (ask 0 [32])) 0 yard = some [3] := by decide +kernel

theorem test_limits :
    Names (31 : Byte) (30 : Fin 31) ∧ NamesNone 31 0 ∧ NamesNone 31 32
      ∧ answerTo (.writeLimits (ask 0 (31 :: measureBytes ⟨1000, 4000, 20000, 500⟩ ++ [1]))) 0 yard = some [0]
      ∧ answerTo (.writeLimits (ask 0 (31 :: measureBytes ⟨1001, 0, 0, 0⟩ ++ [1]))) 0 yard = some [3]
      ∧ answerTo (.writeLimits (ask 0 (31 :: measureBytes ⟨0, 0, 0, 501⟩ ++ [1]))) 0 yard = some [3]
      ∧ answerTo (.writeLimits (ask 0 (31 :: measureBytes ⟨0, 0, 0, 0⟩ ++ [2]))) 0 yard = some [3]
      ∧ answerTo (.readLimits (ask 0 [5])) 0 yard = some [0, 100, 0, 200, 0, 0x2C, 1, 50, 0, 0]
      ∧ answerTo (.readLimits (ask 0 [0])) 0 yard = some [3] := by decide +kernel

theorem test_steps_that_meet_R41 :
    timedStep.meetsR41 ∧ demandStep.meetsR41 ∧ meteredStep.meetsR41 ∧ ¬({ timedStep with hotUnits := 0 } : RecipeStep).meetsR41
      ∧ ¬({ timedStep with amount := 3601 } : RecipeStep).meetsR41 ∧ ¬({ meteredStep with guard := 9 } : RecipeStep).meetsR41
      ∧ ¬({ meteredStep with supply := .steam } : RecipeStep).meetsR41 := by
  simp [RecipeStep.meetsR41, timedStep, demandStep, meteredStep]

theorem test_staging_step :
    meteredStep.fitsBytes = true ∧ stepBytes meteredStep = [1, 0, 1, 0, 2, 20, 0, 0, 10, 0]
      ∧ answerTo (.writeStagingStep (ask 0 (12 :: stepBytes meteredStep))) 0 yard = some [0]
      ∧ (after (.writeStagingStep (ask 0 (12 :: stepBytes meteredStep))) yard).staging.stepCount = 12
      ∧ answerTo (.writeStagingStep (ask 0 (13 :: stepBytes meteredStep))) 0 yard = some [3]
      ∧ answerTo (.writeStagingStep (ask 0 (0 :: stepBytes meteredStep))) 0 yard = some [3]
      ∧ answerTo (.writeStagingStep (ask 0 [1, 1, 2, 1, 0, 2, 20, 0, 0, 10, 0])) 0 yard = some [3] := by decide +kernel

theorem test_staging_rest :
    (after (.clearStaging (ask 0 [])) yard).staging = Staging.empty
      ∧ answerTo (.setStagingRounds (ask 0 [0])) 0 yard = some [3] ∧ answerTo (.setStagingRounds (ask 0 [4])) 0 yard = some [0]
      ∧ answerTo (.setStagingRounds (ask 0 [5])) 0 yard = some [3] ∧ yard.recipe 0 = some sampleRecipe
      ∧ answerTo (.loadStaging (ask 0 [1])) 0 yard = some [0] ∧ answerTo (.loadStaging (ask 0 [15])) 0 yard = some [4]
      ∧ answerTo (.loadStaging (ask 0 [16])) 0 yard = some [3]
      ∧ (after (.loadStaging (ask 0 [1])) yard).staging.stepCount = 3 := by decide +kernel

/-- The small yard with the sample recipe staged. -/
def staged : State :=
  { yard with
    staging := { stepCount := 3, rounds := 2, positions := (((Staging.empty).positions.set 0 (some timedStep)).set 1
      (some demandStep)).set 2 (some meteredStep) } }

theorem test_commit_recipe :
    staged.staging.stepCount ≤ 12 ∧ answerTo (.commitRecipe (ask 0 [15])) 0 staged = some [0]
      ∧ (after (.commitRecipe (ask 0 [15])) staged).recipe 14 = some sampleRecipe
      ∧ answerTo (.commitRecipe (ask 0 [1])) 0 staged = some [9] ∧ answerTo (.commitRecipe (ask 0 [1])) 0 yard = some [3]
      ∧ answerTo (.commitRecipe (ask 0 [16])) 0 staged = some [3] := by decide +kernel

theorem test_erase_recipe :
    answerTo (.eraseRecipe (ask 0 [1])) 0 yard = some [9] ∧ answerTo (.eraseRecipe (ask 0 [15])) 0 yard = some [4]
      ∧ answerTo (.eraseRecipe (ask 0 [0])) 0 yard = some [3]
      ∧ answerTo (.eraseRecipe (ask 0 [1])) 0 { State.reset with recipes := yard.recipes } = some [0] := by decide +kernel

theorem test_yard_settings :
    Names (23 : Byte) Setting.settleTime.index ∧ answerTo (.setYard (ask 0 [23, 60, 0, 0])) 0 yard = some [0]
      ∧ answerTo (.setYard (ask 0 [23, 61, 0, 0])) 0 yard = some [3]
      ∧ answerTo (.setYard (ask 0 [24, 1, 0, 0])) 0 yard = some [3]
      ∧ (after (.setYard (ask 0 [13, 0xA0, 0x86, 1])) yard).setting .blockWait = 100000
      ∧ answerTo (.readYard (ask 0 [13])) 0 yard = some [0, 0x80, 0x3E, 0]
      ∧ answerTo (.readYard (ask 0 [0])) 0 yard = some [3] := by decide +kernel

/-! ## Reads -/

theorem test_reads_of_tables :
    answerTo (.readCompartment (ask 0 [96])) 0 yard = some [0, 96, 0] ∧ answerTo (.readCompartment (ask 0 [97])) 0 yard = some [3]
      ∧ ((answerTo (.readCompartment (ask 0 [4])) 0 yard).getD []).take 16
          = [0, 4, 9, 0x13, 1, 4, 0xE8, 3, 1, 3, 5, 0, 0, 1, 1, 0]
      ∧ answerTo (.readTanker (ask 0 [1])) 0 yard = some [0, 3, 100, 0, 4, 1, 2, 3, 4, 1, 0, 0, 0]
      ∧ answerTo (.readTanker (ask 0 [16])) 0 yard = some [0, 1] ∧ answerTo (.readTanker (ask 0 [17])) 0 yard = some [3]
      ∧ ((answerTo (.readRecipe (ask 1 [1])) 1 yard).getD []).take 5 = [0, 2, 2, 3, 2]
      ∧ answerTo (.readRecipe (ask 1 [15])) 1 yard = some [0, 1] ∧ answerTo (.readStaging (ask 0 [])) 0 yard = some [0, 0, 1]
      ∧ answerTo (.readClock (ask 5 [])) 5 yard = some [0, 0, 0, 0, 0] := by decide +kernel

theorem test_reads_of_blocks :
    answerTo (.readBay (ask 1 [1])) 1 yard = some [0, 2, 1, 2, 1, 0, 2, 0, 2, 0, 2, 0]
      ∧ answerTo (.readBay (ask 1 [5])) 1 yard = some [3]
      ∧ answerTo (.lineStatus (ask 0 [1])) 0 yard = some [0, 2, 1, 0, 1, 1, 0xE0, 1, 0, 0, 0, 0, 0, 0, 0, 0]
      ∧ answerTo (.lineStatus (ask 0 [3])) 0 yard = some [3] ∧ answerTo (.laneStatus (ask 0 [0])) 0 yard = some [3]
      ∧ answerTo (.laneStatus (ask 0 [1])) 0 yard = some [0, 2, 6, 5, 100, 0, 99, 0, 100, 0, 0, 0, 0, 0, 0, 0, 1, 1] := by
  decide +kernel

/-- The arbiter of the small yard: the fixed part, no token allowance, and claims and grants as given. -/
def arbiterAnswer (free claims grants : List Byte) : List Byte :=
  [0, 4, 1, 2] ++ free ++ [1, 1, 2, 3, 4, 5, 6, 7, 8, 4, 0x58, 2, 0, 0] ++ (List.replicate 8 [0, 0, 0, 0, 2]).flatten ++ claims
    ++ grants

theorem test_read_arbiter :
    answerTo (.readArbiter (ask 0 [])) 0 yard = some (arbiterAnswer [4, 1, 2] [0] [0])
      ∧ answerTo (.readArbiter (ask 0 [])) 0
          { yard with
            plant :=
              { yard.plant with
                claims := yard.plant.claims.set 2 (some ⟨.run, ⟨2, 0, 1⟩, 3, true, false⟩)
                grants := yard.plant.grants.set 0 (some ⟨.run, ⟨3, 0, 0⟩, true⟩) } }
          = some (arbiterAnswer [1, 1, 2] [1, 3, 1, 2, 0, 1, 3, 1] [1, 1, 2, 1, 3, 0, 0]) := by decide +kernel

theorem test_channel_status :
    answerTo (.channelStatus (ask 0 [1])) 0 (washing .running 1 1)
      = some ([0, 5, 1, 1, 0, 1, 1, 1, 0, 0, 0, 0, 0, 0, 0, 0, 0, 0, 0, 1, 1, 0, 1, 0, 1, 1] ++ List.replicate 12 0)
      ∧ answerTo (.channelStatus (ask 0 [9])) 0 yard = some [3] := by decide +kernel

/-! ## Compartment table -/

/-- One description of 1000 litres, one hatch, class 3 for class 5. -/
def described (next : Byte) : List Byte := [0xE8, 0x03, 1, 3, next]

theorem test_book_is_checked :
    BookInRange 300 [⟨1000, 1, 3, some 5⟩] ∧ bookPayload 300 [⟨1000, 1, 3, some 5⟩] = [0x2C, 1, 1] ++ described 5
      ∧ answerTo (.book ⟨ask 0 ([0x2C, 1, 1] ++ described 5), []⟩) 0 State.reset = some [15]
      ∧ answerTo (.book ⟨ask 0 ([0x2C, 1, 1] ++ described 0), []⟩) 0 yard = some [3]
      ∧ answerTo (.book ⟨ask 0 ([0, 0, 1] ++ described 5), []⟩) 0 yard = some [3]
      ∧ answerTo (.book ⟨ask 0 ([100, 0, 1] ++ described 5), []⟩) 0 yard = some [9]
      ∧ answerTo (.book ⟨ask 0 ([0x2C, 1, 1] ++ described 6), []⟩) 0 yard = some [10]
      ∧ answerTo (.book ⟨ask 0 ([0x2C, 1, 1] ++ described 5), []⟩) 0
          { yard with tankers := Vector.replicate 16 (some ⟨100, [0], 0, none⟩) } = some [7] := by
  unfold BookInRange
  decide +kernel

theorem test_book :
    answerTo (.book ⟨ask 0 ([0x2C, 1, 2] ++ described 5 ++ described 0xFF), []⟩) 0 yard = some [0, 3, 2, 9, 10]
      ∧ (after (.book ⟨ask 0 ([0x2C, 1, 1] ++ described 5), []⟩) yard).comp 8 = record .booked 2 0
      ∧ (after (.book ⟨ask 0 ([0x2C, 1, 1] ++ described 5), []⟩) yard).tanker 2 = some ⟨300, [8], 0, none⟩
      ∧ yard.tanker 2 = none ∧ (∀ i < (2 : Tanker), yard.tanker i ≠ none)
      ∧ 1 ≤ ((List.finRange 96).countP fun i => decide ((yard.comp i).state = .free)) := by decide +kernel

theorem test_queue_in :
    (yard.comp 6).nextClass = some 5 ∧ (5 : CargoClass).val = (4 : Fin 31).val + 1 ∧ yard.cell 3 5 = .slot 0
      ∧ ((queueIn 0 6 yard).comp 6).state = .queued ∧ ((queueIn 0 6 yard).bay 0).queue = [0, 1, 6]
      ∧ ((queueIn 0 6 (yard.setComp 6 { record .booked 1 2 with lastClass := 5 })).comp 6).state = .cleared
      ∧ ((queueIn 0 6 (yard.setComp 6 { record .booked 1 2 with lastClass := 5 })).comp 6).cert = some ⟨3, 0, 5, 240⟩
      ∧ ((queueIn 0 6 (yard.setComp 6 { record .booked 1 2 with lastClass := 6, nextClass := some 6 })).comp 6).state
          = .inspectWait
      ∧ ((queueIn 0 6 (yard.setComp 6 { record .booked 1 2 with lastClass := 5, nextClass := some 7 })).comp 6).nextClass
          = none := by decide +kernel

theorem test_certificate_number_wraps :
    yard.certCounter ≤ 65535 ∧ 1 ≤ yard.certCounter ∧ DeparturesFit yard
      ∧ ((issueCertificate 6 { yard with certCounter := 65535 }).comp 6).cert = some ⟨65535, 0, 5, 240⟩
      ∧ (issueCertificate 6 { yard with certCounter := 65535 }).certCounter = 1
      ∧ ((issueCertificate 6 { yard with certCounter := 1 }).comp 6).cert = some ⟨3, 0, 5, 240⟩ := by
  unfold DeparturesFit
  decide +kernel

theorem test_minute_comparison :
    minuteReached 16777215 0 = true ∧ minuteReached 0 8388607 = true ∧ minuteReached 0 8388608 = false
      ∧ minuteReached 1 0 = false ∧ minuteReached 5 5 = true := by decide +kernel

theorem test_set_next_class :
    answerTo (.setNextClass (ask 0 [97, 5])) 0 yard = some [3] ∧ answerTo (.setNextClass (ask 0 [96, 5])) 0 yard = some [4]
      ∧ answerTo (.setNextClass (ask 0 [7, 32])) 0 yard = some [3] ∧ answerTo (.setNextClass (ask 0 [5, 5])) 0 yard = some [5]
      ∧ answerTo (.setNextClass (ask 0 [7, 31])) 0 yard = some [10] ∧ answerTo (.setNextClass (ask 0 [7, 3])) 0 yard = some [0, 1]
      ∧ parkedBay 6 yard = none ∧ parkedBay 3 yard = some 0
      ∧ answerTo (.setNextClass (ask 0 [4, 5])) 0 (yard.setComp 3 (record .booked 0 3)) = some [0, 2]
      ∧ ((after (.setNextClass (ask 0 [4, 5])) (yard.setComp 3 (record .booked 0 3))).bay 0).owed = 2 := by decide +kernel

theorem test_dispose :
    answerTo (.dispose (ask 0 [4, 1])) 0 yard = some [0, 2] ∧ answerTo (.dispose (ask 0 [4, 2])) 0 yard = some [0, 4]
      ∧ answerTo (.dispose (ask 0 [4, 3])) 0 yard = some [3] ∧ answerTo (.dispose (ask 0 [1, 1])) 0 yard = some [5]
      ∧ answerTo (.dispose (ask 0 [96, 1])) 0 yard = some [4] ∧ answerTo (.dispose (ask 0 [0, 1])) 0 yard = some [3]
      ∧ answerTo (.dispose (ask 0 [8, 1])) 0 (yard.setComp 7 { record .held 1 3 with hold := some .interrupted })
          = some [0, 1] := by decide +kernel

theorem test_withdraw :
    ((after (.withdraw (ask 0 [5])) yard).comp 4) = record .withdrawn 1 0 ∧ answerTo (.withdraw (ask 0 [1])) 0 yard = some [5]
      ∧ answerTo (.withdraw (ask 0 [96])) 0 yard = some [4] ∧ answerTo (.withdraw (ask 0 [97])) 0 yard = some [3] := by
  decide +kernel

/-- The small yard whose filling is over and whose departure queue holds so many records. -/
def leaving (n : Nat) : State :=
  { yard.setComp 5 (record .booked 1 1) with
    departures := List.replicate n ⟨7, 1, 3, .cleared, some ⟨9, 0, 5, 10⟩, none, 0⟩ }

theorem test_depart :
    answerTo (.depart (ask 0 [2])) 0 yard = some [5] ∧ answerTo (.depart (ask 0 [1])) 0 yard = some [5]
      ∧ answerTo (.depart (ask 0 [3])) 0 yard = some [4] ∧ answerTo (.depart (ask 0 [17])) 0 yard = some [3]
      ∧ answerTo (.depart (ask 0 [2])) 0 (leaving 28) = some [0, 4] ∧ answerTo (.depart (ask 0 [2])) 0 (leaving 29) = some [8]
      ∧ (after (.depart (ask 0 [2])) (leaving 28)).departures.length = 32
      ∧ (after (.depart (ask 0 [2])) (leaving 0)).comp 4 = CompartmentRecord.freed := by decide +kernel

theorem test_take_departure :
    answerTo (.takeDeparture (ask 0 [])) 0 yard = some [0]
      ∧ answerTo (.takeDeparture (ask 0 [])) 0 (leaving 2)
          = some ([0, 7, 0, 1, 3, 6, 9, 0, 0, 0, 0, 5, 10, 0, 0] ++ List.replicate 7 0 ++ [0, 0, 0])
      ∧ ((after (.takeDeparture (ask 0 [])) (leaving 2)).port 0).flags = [⟨5, 0⟩]
      ∧ ((after (.takeDeparture (ask 0 [])) (leaving 1)).port 0).flags = [] := by decide +kernel

/-! ## Bays and dispatch -/

/-- The small yard with the second tanker ready to be parked. -/
def parkable : State := yard.setComp 5 { record .booked 1 1 with hatches := 2 }

theorem test_park_is_checked :
    (2 : Port) = bayPort 1 ∧ answerTo (.park ⟨ask 2 [2], []⟩) 2 { yard with yardOpen := false } = some [15]
      ∧ answerTo (.park ⟨ask 2 [17], []⟩) 2 yard = some [3] ∧ answerTo (.park ⟨ask 2 [16], []⟩) 2 yard = some [4]
      ∧ answerTo (.park ⟨ask 2 [1], []⟩) 2 yard = some [5] ∧ answerTo (.park ⟨ask 2 [2], []⟩) 2 yard = some [5]
      ∧ answerTo (.park ⟨ask 1 [2], []⟩) 1 parkable = some [6]
      ∧ answerTo (.park ⟨ask 2 [2], []⟩) 2 (parkable.setBay 1 { twoHead := false, parked := none, queue := [], owed := 0 })
          = some [12] := by decide +kernel

theorem test_park :
    (∀ k ∈ ([4, 5, 6, 7] : List Comp), (parkable.comp k).state ≠ .filling) ∧ ([4, 5, 6, 7] : List Comp).Nodup
      ∧ answerTo (.park ⟨ask 2 [2], []⟩) 2 parkable = some [0, 4, 6, 2, 2, 10]
      ∧ (after (.park ⟨ask 2 [2], []⟩) parkable).bay 1 = { twoHead := true, parked := some 1, queue := [5, 6], owed := 1 }
      ∧ (after (.park ⟨ask 2 [2], []⟩) parkable).tanker 1 = some ⟨200, [4, 5, 6, 7], 0, some 1⟩ := by decide +kernel

/-- WRITE_MATRIX_ROW of row 3 that makes cell (3, 5) NONE, and WRITE_LIMITS of class 5 that requires an inspection. -/
def rewriteCell : Between := .writeMatrixRow (ask 0 (rowBytes 3 (rowWith 5 .none)))
def rewriteEntry : Between := .writeLimits (ask 0 (5 :: measureBytes ⟨0, 0, 0, 0⟩ ++ [1]))

theorem test_park_with_writes_between :
    parkable.resetPin = false ∧ (takeBetween parkable rewriteCell).cell 3 5 = .none
      ∧ answerTo (.park ⟨ask 2 [2], [[], [rewriteCell]]⟩) 2 parkable = some [0, 4, 6, 2, 6, 10]
      ∧ answerTo (.park ⟨ask 2 [2], [[], [rewriteCell], [.answerSent 0, rewriteEntry]]⟩) 2 parkable = some [0, 4, 6, 2, 4, 10]
      ∧ answerTo (.park ⟨ask 2 [2], [[], [rewriteCell], [rewriteEntry]]⟩) 2 parkable = some [0, 4, 6, 2, 6, 10]
      ∧ answerTo (.park ⟨ask 2 [2], [[], [], [rewriteCell]]⟩) 2 parkable = some [0, 4, 6, 2, 2, 10]
      ∧ ((after (.park ⟨ask 2 [2], [[], [rewriteCell]]⟩) parkable).bay 1).queue = [5]
      ∧ (after (.park ⟨ask 2 [2], [[], [rewriteCell]]⟩) parkable).cell 3 5 = .none := by decide +kernel

theorem test_book_with_a_write_between :
    answerTo (.book ⟨ask 0 ([0x2C, 1, 2] ++ described 5 ++ described 5), [[], [rewriteCell]]⟩) 0 yard = some [0, 3, 2, 9, 10]
      ∧ ((after (.book ⟨ask 0 ([0x2C, 1, 2] ++ described 5 ++ described 5), [[], [rewriteCell]]⟩) yard).port 0).overrunCount = 1
      ∧ (after (.book ⟨ask 0 ([0x2C, 1, 2] ++ described 5 ++ described 5), [[], [rewriteCell]]⟩) yard).cell 3 5 = .slot 0
      ∧ (yard.port officePort).answer = none := by decide +kernel

theorem test_unpark :
    answerTo (.unpark (ask 0 [1])) 0 yard = some [0, 2] ∧ (after (.unpark (ask 1 [1])) yard).tanker 0 = some ⟨100, [0, 1, 2, 3], 0, none⟩
      ∧ ((after (.unpark (ask 1 [1])) yard).comp 1).plan = none ∧ answerTo (.unpark (ask 2 [1])) 2 yard = some [2]
      ∧ answerTo (.unpark (ask 0 [2])) 0 yard = some [5] ∧ answerTo (.unpark (ask 0 [3])) 0 yard = some [4]
      ∧ answerTo (.unpark (ask 0 [0])) 0 yard = some [3] ∧ answerTo (.unpark (ask 0 [1])) 0 (washing .bound 1 0) = some [6] := by
  decide +kernel

theorem test_expedite :
    answerTo (.expedite (ask 0 [2])) 0 yard = some [0] ∧ ((after (.expedite (ask 0 [2])) yard).bay 0).queue = [1, 0]
      ∧ ((after (.expedite (ask 0 [2])) yard).bay 0).owed = 2 ∧ answerTo (.expedite (ask 0 [3])) 0 yard = some [5]
      ∧ answerTo (.expedite (ask 0 [96])) 0 yard = some [4] ∧ answerTo (.expedite (ask 0 [97])) 0 yard = some [3] := by
  decide +kernel

/-- Bay 1 with its queue the other way round: the front has two hatches. -/
def pairFirst : State := yard.setBay 0 { twoHead := true, parked := some 0, queue := [1, 0], owed := 1 }

theorem test_dispatch_single :
    (yard.bay 0).parked ≠ none ∧ (yard.comp 0).state = .queued ∧ (yard.comp 0).hatches = 1
      ∧ ((after (.dispatchAttempt 0) yard).comp 0)
          = { record .washing 0 0 with plan := some ⟨0, 0⟩, binding := some (.single 0) }
      ∧ ((after (.dispatchAttempt 0) yard).bay 0) = { twoHead := true, parked := some 0, queue := [1], owed := 0 }
      ∧ ((dispatch 0 (withChannel 0 (WashChannel.afterReset .fault true))).1.chan 1).binding = some ⟨0, .single⟩
      ∧ (after (.dispatchAttempt 1) yard).bay 1 = yard.bay 1 := by decide +kernel

theorem test_dispatch_pair :
    (pairFirst.comp 1).hatches = 2 ∧ answerTo (.requestDispatch (ask 0 [1])) 0 pairFirst = some [0, 2]
      ∧ ((after (.requestDispatch (ask 1 [])) pairFirst).chan 1).binding = some ⟨1, .partner⟩
      ∧ ((after (.requestDispatch (ask 1 [])) pairFirst).port 1).flags = [⟨3, 1⟩, ⟨3, 2⟩]
      ∧ (dispatch 0 (pairFirst.setChan 1 (WashChannel.afterReset .service true))).2 = 0
      ∧ answerTo (.requestDispatch (ask 0 [5])) 0 yard = some [3] := by decide +kernel

theorem test_dispatch_of_a_wrong_length :
    (1 : Port) = bayPort 0 ∧ answerTo (.requestDispatch (ask 1 [1])) 1 yard = some [3]
      ∧ answerTo (.requestDispatch (ask 0 [])) 0 yard = some [3]
      ∧ answerTo (.requestDispatch (ask 0 [1, 1])) 0 yard = some [3] := by decide +kernel

theorem test_cancel_binding :
    washingOn ((washing .bound 1 0).comp 0) 0 = true ∧ foreignChannel 1 0 = false
      ∧ ((after (.cancelBinding (ask 1 [1])) (washing .bound 1 0)).bay 0).queue = [0, 1]
      ∧ ((after (.cancelBinding (ask 1 [1])) (washing .claiming 1 0)).comp 0).state = .queued
      ∧ ((after (.abortRun (ask 1 [1])) (washing .bound 1 0)).chan 0).state = .idle
      ∧ answerTo (.cancelBinding (ask 1 [1])) 1 (washing .running 1 0) = some [5] := by decide +kernel

theorem test_cancel_binding_with_none :
    answerTo (.cancelBinding (ask 1 [1])) 1 yard = some [5]
      ∧ answerTo (.cancelBinding (ask 1 [1])) 1 (withChannel 0 (WashChannel.afterReset .service true)) = some [5]
      ∧ answerTo (.cancelBinding (ask 1 [1])) 1
          (withChannel 0 { WashChannel.afterReset .claiming true with rehearsal := some 0 }) = some [5]
      ∧ ((after (.cancelBinding (ask 1 [1])) ((washing .bound 1 0).setComp 0 (record .held 0 0))).bay 0).queue = [1] := by
  decide +kernel

/-! ## Wash channels -/

/-- The small yard with record 2 WASHING on the pair of bay 1, in a state and a step of its run. -/
def washingPair (x : ChannelState) (k passes : Nat) : State :=
  (((yard.setComp 1
      { record .washing 0 1 with plan := some ⟨0, 0⟩, binding := some (.pair 0), hatches := 2 }).setChan 0
    { WashChannel.afterReset x true with binding := some ⟨1, .lead⟩, run := some ⟨0, k, passes, 0, 0, 0⟩ }).setChan 1
    { WashChannel.afterReset x true with binding := some ⟨1, .partner⟩ }).setBay 0
      { twoHead := true, parked := some 0, queue := [0], owed := 0 }

/-- Channel 1 rehearsing slot 1 in a state and a step. -/
def rehearsing (x : ChannelState) (k : Nat) : State :=
  yard.setChan 0
    { WashChannel.afterReset x true with rehearsal := some 0, run := some ⟨0, k, 0, 0, 0, 0⟩ }

theorem test_start_run :
    leadOf (washing .bound 1 0) 0 = 0 ∧ headsOf (washing .bound 1 0) 0 = [0] ∧ (washing .bound 1 0).recipe 0 = some sampleRecipe
      ∧ (∀ st ∈ sampleRecipe.steps, (stepClaim st).hot ≤ 4 ∧ (stepClaim st).steam ≤ 1 ∧ (stepClaim st).doser ≤ 2)
      ∧ ((after (.startRun (ask 1 [1])) (washing .bound 1 0)).chan 0).state = .running
      ∧ ((after (.startRun (ask 1 [1])) (washing .bound 1 0)).chan 0).run = some ⟨0, 1, 1, 0, 0, 0⟩
      ∧ (after (.startRun (ask 1 [1])) (washing .bound 1 0)).plant.grantUnits 0 = ⟨2, 0, 1⟩
      ∧ answerTo (.startRun (ask 1 [2])) 1 (washing .bound 1 0) = some [5]
      ∧ answerTo (.startRun (ask 1 [1])) 1 (after (.headInDrop 0) (washing .bound 1 0)) = some [14]
      ∧ answerTo (.startRun (ask 1 [2])) 1 (washingPair .bound 1 0) = some [12] := by decide +kernel

theorem test_start_rehearsal :
    (yard.chan 0).state = .idle ∧ answerTo (.startRehearsal (ask 1 [1, 0])) 1 yard = some [3]
      ∧ answerTo (.startRehearsal (ask 1 [1, 16])) 1 yard = some [3] ∧ answerTo (.startRehearsal (ask 1 [1, 15])) 1 yard = some [4]
      ∧ answerTo (.startRehearsal (ask 1 [1, 1])) 1 (washing .bound 1 0) = some [5]
      ∧ ((after (.startRehearsal (ask 1 [1, 1])) yard).chan 0).rehearsal = some 0
      ∧ ((after (.startRehearsal (ask 1 [1, 1])) yard).chan 0).state = .running
      ∧ answerTo (.startRehearsal (ask 1 [1, 1])) 1 { yard with plant := { yard.plant with hotCapacity := 1 } } = some [12] := by
  decide +kernel

theorem test_step_begins :
    leadOf (washing .claiming 2 0) 0 = 0 ∧ ((washing .claiming 2 0).chan 0).run = some ⟨0, 2, 0, 0, 0, 0⟩
      ∧ sampleRecipe.steps[3 - 1]? = some meteredStep ∧ stepClaim meteredStep = ⟨0, 0, 0⟩
      ∧ ((beginStep 0 3 (washing .claiming 2 0)).chan 0).state = .running
      ∧ ((beginStep 0 2 (washing .claiming 1 0)).plant.grantUnits 0) = ⟨0, 1, 0⟩
      ∧ ((beginStep 0 2 (washingPair .claiming 1 0)).chan 0).reason = some .claimUnfit
      ∧ ((beginStep 0 2 (washingPair .claiming 1 0)).chan 1).reason = some .partnerFault := by decide +kernel

/-- Channel 1 in CLAIMING with a waiting claim of HOT 2, with so many HOT units granted to channel 3. -/
def claiming (held : Nat) : State :=
  { washing .claiming 1 1 with
    plant :=
      { yard.plant with
        claims := yard.plant.claims.set 0 (some ⟨.run, ⟨2, 0, 1⟩, 0, false, false⟩)
        grants := yard.plant.grants.set 2 (some ⟨.run, ⟨held, 0, 0⟩, false⟩) } }

theorem test_lone_claim :
    PriorityComplete (claiming 2) ∧ (∀ d : Chan, d ≠ 0 → (claiming 2).plant.claims[d] = none)
      ∧ (0 < (claiming 2).setting .skipLimit) ∧ ((claiming 2).chan 0).state = .claiming
      ∧ (⟨2, 0, 1⟩ : Units).fits (claiming 2).plant.free = true ∧ (⟨2, 0, 1⟩ : Units).fits (claiming 3).plant.free = false
      ∧ ((arbitrate (claiming 2)).chan 0).state = .running ∧ ((arbitrate (claiming 3)).chan 0).state = .claiming
      ∧ (arbitrate (claiming 3)).plant.claims = (claiming 3).plant.claims := by
  refine ⟨List.Perm.refl _, ?_⟩
  decide +kernel

theorem test_abort_run :
    (answerTo (.abortRun (ask 1 [1])) 1 (washing .running 1 0)) = some [0]
      ∧ ((after (.abortRun (ask 1 [1])) (washing .running 1 0)).chan 0).state = .stopping
      ∧ ((after (.abortRun (ask 1 [1])) (washing .running 1 0)).comp 0).hold = some .washAborted
      ∧ ((after (.abortRun (ask 1 [1])) (washing .running 1 0)).port 1).flags = [⟨2, 1⟩]
      ∧ answerTo (.abortRun (ask 1 [1])) 1 yard = some [5] := by decide +kernel

/-- A state whose channel 1 has its run, pause or drain-down timer set. -/
def timed (s : State) (pass running : Nat) : State :=
  s.modChan 0 fun y => { y with run := y.run.map fun r => { r with passTimer := pass, runningTime := running } }

theorem test_guard_pause_and_head_lift :
    (washing .running 3 0).resetPin = false
      ∧ runOf (timed (washing .running 3 0) 10 0) 0 = some ⟨0, 3, 0, 0, 10, 0⟩
      ∧ stepOf (timed (washing .running 3 0) 10 0) 0 = some meteredStep
      ∧ ((after (.guardExpiry 0) (timed (washing .running 3 0) 10 0)).chan 0).reason = some .flowShort
      ∧ ((after (.guardExpiry 0) (timed (washing .running 3 0) 9 0)).chan 0).reason = none
      ∧ ((after (.pauseLimitExpiry 0) ((washing .paused 2 0).modChan 0 fun y => { y with pauseDue := true })).comp 0).hold
          = some (.washFault .dischargeBlocked)
      ∧ ((after (.headInDrop 1) (washingPair .running 1 0)).chan 1).reason = some .headLifted
      ∧ ((after (.headInDrop 1) (washingPair .running 1 0)).chan 0).reason = some .partnerFault
      ∧ ((after (.headInDrop 1) (washingPair .running 1 0)).comp 1).hold = some (.washFault .headLifted) := by decide +kernel

theorem test_head_stops :
    yard.setting .drainDownTime ≠ 0
      ∧ ((stopHeads [(0, .flowShort)] (washing .running 3 0)).chan 0).state = .stopping
      ∧ ((stopHeads [(0, .flowShort)] { washing .running 3 0 with settings := yard.settings.set 1 0 }).chan 0).state = .fault
      ∧ ((stopHeads [(0, .abortedByBay)] { washing .running 3 0 with settings := yard.settings.set 1 0 }).bay 0).owed = 1
      ∧ (giveBack 2 (claiming 3)).plant.grants[(2 : Chan)] = none ∧ (claiming 2).plant.grants[(0 : Chan)] = none
      ∧ ((giveBack 2 (claiming 3)).chan 0).state = .running ∧ (yard.plant.claims[(0 : Chan)]) = none := by decide +kernel

theorem test_timed_passes :
    stepOf (timed (washing .running 1 1) 10 0) 0 = some timedStep ∧ stepOf (timed (washing .running 2 0) 0 5) 0 = some demandStep
      ∧ ((after (.passTimerExpiry 0) (timed (washing .running 1 1) 10 0)).chan 0).run = some ⟨0, 1, 0, 0, 0, 0⟩
      ∧ ((after (.passTimerExpiry 0) (timed (washing .running 1 1) 9 0)).chan 0).run = some ⟨0, 1, 1, 0, 9, 0⟩
      ∧ ((after (.passTimerExpiry 0) (timed (rehearsing .running 3) 20 0)).chan 0).run = some ⟨0, 1, 1, 1, 0, 0⟩
      ∧ ((after (.runningTimeExpiry 0) (timed (washing .running 2 0) 0 5)).chan 0).run = some ⟨0, 3, 0, 0, 0, 0⟩
      ∧ ((after (.runningTimeExpiry 0) (timed (washing .running 2 0) 0 4)).chan 0).run = some ⟨0, 2, 0, 0, 0, 4⟩ := by
  decide +kernel

theorem test_flow_meter :
    ((after (.flowMeterPulse 0) (washing .running 3 0)).chan 0).meter = 1
      ∧ ((after (.flowMeterPulse 0) (washing .running 1 0)).chan 0).meter = 0 ∧ stepOf yard 0 = none
      ∧ ((after (.flowMeterPulse 0) ((washing .running 3 0).modChan 0 fun y => { y with meter := 19 })).chan 0).run
          = some ⟨0, 1, 1, 1, 0, 0⟩
      ∧ ((after (.flowMeterPulse 1) ((washingPair .running 3 0).modChan 1 fun y => { y with meter := 19 })).chan 1).headDone
          = true
      ∧ isPair (washingPair .running 3 0) 1 = true ∧ stepOf (washingPair .running 3 0) 1 = some meteredStep := by decide +kernel

theorem test_round_and_run_end :
    recipeOf (washing .running 3 0) 0 = some sampleRecipe
      ∧ ((endPass 0 (washing .running 3 0)).comp 0).plan = some ⟨0, 1⟩
      ∧ ((endRound 0 (washing .running 3 0)).chan 0).run = some ⟨0, 1, 1, 1, 0, 0⟩
      ∧ ((completeRun 0 (washing .running 3 0)).comp 0).state = .cleared
      ∧ ((completeRun 0 (washing .running 3 0)).chan 0).state = .idle
      ∧ ((completeRun 0 (washing .running 3 0)).port 1).flags = [⟨2, 1⟩]
      ∧ ((completeRun 0 (washing .running 3 0)).bay 0).owed = 1
      ∧ washingOn ((washing .running 3 0).comp 0) 0 = true
      ∧ ((completeRun 0 (washingPair .running 3 0)).port 1).flags = [⟨2, 1⟩, ⟨2, 2⟩] := by decide +kernel

theorem test_permit :
    ((after (.dischargePermitDrop ⟨[0], []⟩) (washing .running 2 0)).chan 0).state = .paused
      ∧ ((after (.dischargePermitDrop ⟨[], []⟩) (washing .running 1 0)).chan 0).reason = some .dischargeLost
      ∧ ((after (.dischargePermitDrop ⟨[], []⟩) (rehearsing .running 1)).chan 0).state = .running
      ∧ ((after .dischargePermitReturn (washing .paused 2 0)).chan 0).state = .running
      ∧ (∀ c : Chan, (yard.chan c).state ≠ .running) := by decide +kernel

/-- A drop that met the pass end, taken first, lets the next pass begin unjudged; a later pass, a first pass, and a channel that the
command does not name are judged. -/
theorem test_permit_drop_after_a_pass_end :
    ((after (.dischargePermitDrop ⟨[], [0]⟩) (after (.passTimerExpiry 0) (timed (washing .running 1 1) 10 0))).chan 0).state = .running
      ∧ ((after (.dischargePermitDrop ⟨[], []⟩) (after (.passTimerExpiry 0) (timed (washing .running 1 1) 10 0))).chan 0).reason
          = some .dischargeLost
      ∧ ((after (.dischargePermitDrop ⟨[], [1]⟩) (washingPair .running 1 0)).chan 0).state = .running
      ∧ ((after (.dischargePermitDrop ⟨[], [0]⟩) (timed (washing .running 1 0) 1 0)).chan 0).reason = some .dischargeLost
      ∧ ((after (.dischargePermitDrop ⟨[], [0]⟩) (washing .running 1 1)).chan 0).reason = some .dischargeLost := by decide +kernel

/-- Entry to RUNNING without the permit: a draining METERED step faults, a rehearsal runs on, a DEMAND step pauses on its grant, and a
draining TIMED step faults and releases its grant. -/
theorem test_entry_without_the_permit :
    ((beginStep 0 3 { washing .claiming 2 0 with permit := false }).chan 0).reason = some .dischargeLost
      ∧ ((beginStep 0 3 { rehearsing .claiming 2 with permit := false }).chan 0).state = .running
      ∧ ((beginStep 0 2 { washing .claiming 1 0 with permit := false }).chan 0).state = .paused
      ∧ (beginStep 0 2 { washing .claiming 1 0 with permit := false }).plant.grantUnits 0 = ⟨0, 1, 0⟩
      ∧ ((claiming 2).plant.pass 4).2 = [0]
      ∧ ((arbitrate { claiming 2 with permit := false }).chan 0).state = .stopping
      ∧ (arbitrate { claiming 2 with permit := false }).plant.grants[(0 : Chan)] = none := by decide +kernel

theorem test_head_in :
    ((after (.headInDrop 0) (claiming 2)).chan 0).state = .bound ∧ ((after (.headInDrop 0) (claiming 2)).chan 0).run = none
      ∧ (after (.headInDrop 0) (claiming 2)).plant.claims[(0 : Chan)] = none
      ∧ ((after (.headInDrop 0) (rehearsing .running 1)).chan 0).state = .running
      ∧ ((after (.headInRise 0) (after (.headInDrop 0) yard)).chan 0).headIn = true := by decide +kernel

/-- Channel 1 draining down with so many seconds gone of twenty, for a reason. -/
def draining (n : Nat) (why : Reason) : State :=
  yard.setChan 0
    { WashChannel.afterReset .stopping true with drainTimer := n, drainTime := 20, reason := some why }

theorem test_drain_down :
    ((after (.drainDownExpiry 0) (draining 20 .abortedByBay)).chan 0).state = .idle
      ∧ ((after (.drainDownExpiry 0) (draining 20 .abortedByBay)).bay 0).owed = 2
      ∧ ((after (.drainDownExpiry 0) (draining 20 .flowShort)).chan 0).state = .fault
      ∧ ((after (.drainDownExpiry 0) (draining 19 .flowShort)).chan 0).state = .stopping
      ∧ ((after (.clearFault (ask 1 [1])) (after (.drainDownExpiry 0) (draining 20 .flowShort))).chan 0).state = .idle
      ∧ answerTo (.clearFault (ask 0 [1])) 0 yard = some [5] := by decide +kernel

/-- Channel 1 in SERVICE with every value of its latch open, holding HOT 2. -/
def serviced : State :=
  { yard.setChan 0 { WashChannel.afterReset .service true with latch := ⟨true, true, true, true, true⟩ } with
    plant := { yard.plant with grants := yard.plant.grants.set 0 (some ⟨.service, ⟨2, 0, 0⟩, false⟩) } }

theorem test_service_mode :
    ((after (.serviceEnter (ask 1 [1])) yard).chan 0).state = .service ∧ answerTo (.serviceEnter (ask 1 [1])) 1 serviced = some [5]
      ∧ ((after (.serviceLatch (ask 1 [1, 1, 0, 0, 0, 1])) yard).chan 0).latch = ⟨true, false, false, false, true⟩
      ∧ answerTo (.serviceLatch (ask 1 [1, 2, 0, 0, 0, 1])) 1 yard = some [3]
      ∧ (after (.serviceRelease (ask 1 [1])) serviced).plant.grants[(0 : Chan)] = none
      ∧ answerTo (.serviceRelease (ask 1 [1])) 1 yard = some [5] ∧ answerTo (.serviceExit (ask 1 [1])) 1 yard = some [5]
      ∧ ((after (.serviceExit (ask 1 [1])) serviced).chan 0).state = .idle
      ∧ ((after (.serviceExit (ask 1 [1])) serviced).bay 0).owed = 2 := by decide +kernel

theorem test_service_claim :
    answerTo (.serviceClaim (ask 1 [1, 8, 1, 2])) 1 { yard with plant := { yard.plant with hotCapacity := 8 } } = some [5]
      ∧ answerTo (.serviceClaim (ask 1 [1, 9, 0, 0])) 1 serviced = some [3]
      ∧ answerTo (.serviceClaim (ask 1 [1, 0, 0, 0])) 1 serviced = some [3]
      ∧ answerTo (.serviceClaim (ask 1 [1, 1, 0, 0])) 1 serviced = some [6]
      ∧ answerTo (.serviceClaim (ask 1 [1, 5, 0, 0])) 1 { serviced with plant := yard.plant } = some [12]
      ∧ (after (.serviceClaim (ask 1 [1, 4, 0, 0])) { serviced with plant := yard.plant }).plant.grantUnits 0 = ⟨4, 0, 0⟩ := by
  decide +kernel

theorem test_valve_lines :
    valveLines (washing .running 1 0) 0 = ⟨false, true, false, true, true⟩
      ∧ valveLines (washing .running 2 0) 0 = ⟨false, false, true, false, false⟩
      ∧ valveLines (washing .running 3 0) 0 = ⟨true, false, false, false, true⟩
      ∧ valveLines ((washingPair .running 3 0).modChan 0 fun y => { y with headDone := true }) 0
          = ⟨false, false, false, false, true⟩
      ∧ valveLines serviced 0 = ⟨true, true, false, false, true⟩
      ∧ valveLines (draining 0 .flowShort) 0 = ⟨false, false, false, false, true⟩
      ∧ valveLines (rehearsing .running 1) 0 = Lines.closed ∧ valveLines yard 0 = Lines.closed := by decide +kernel

/-! ## Plant arbiter and clock -/

theorem test_tokens_and_scheme :
    (after (.setTokenAllowance (ask 0 [8, 0xFF, 0xFF])) yard).plant.tokens[(7 : Chan)] = ⟨65535, 65535⟩
      ∧ answerTo (.setTokenAllowance (ask 0 [9, 0, 0])) 0 yard = some [3]
      ∧ answerTo (.setTokenAllowance (ask 0 [1, 0, 0])) 0 (yard.setChan 0 (WashChannel.afterReset .unfitted true)) = some [12]
      ∧ (after (.setPriorityScheme (ask 0 [2])) yard).plant.scheme = .rotating
      ∧ answerTo (.setPriorityScheme (ask 0 [1])) 0 yard = some [0] ∧ answerTo (.setPriorityScheme (ask 0 [0])) 0 yard = some [3]
      ∧ answerTo (.setPriorityScheme (ask 0 [3])) 0 yard = some [3] := by decide +kernel

theorem test_hot_capacity :
    answerTo (.setHotCapacity (ask 0 [0])) 0 yard = some [3] ∧ answerTo (.setHotCapacity (ask 0 [9])) 0 yard = some [3]
      ∧ answerTo (.setHotCapacity (ask 0 [8])) 0 yard = some [0, 0] ∧ answerTo (.setHotCapacity (ask 0 [2])) 0 (claiming 3) = some [9]
      ∧ (claiming 3).plant.granted.hot = 3 ∧ answerTo (.setHotCapacity (ask 0 [1])) 0 (claiming 1) = some [0, 1]
      ∧ ((after (.setHotCapacity (ask 0 [1])) (claiming 1)).chan 0).reason = some .claimUnfit
      ∧ (∀ c : Chan, yard.plant.claims[c] = none) := by decide +kernel

/-- Three waiting claims under the start order, the claim of channel 1 anchored or not, channel 2 exhausted. -/
def contended (anchor : Bool) : Plant :=
  { Plant.powerOn with
    claims :=
      ((Plant.powerOn.claims.set 0 (some ⟨.run, ⟨3, 0, 0⟩, 4, anchor, false⟩)).set 1
        (some ⟨.run, ⟨1, 0, 0⟩, 0, false, false⟩)).set 2 (some ⟨.run, ⟨0, 1, 0⟩, 0, false, false⟩)
    tokens := Plant.powerOn.tokens.set 1 ⟨5, 0⟩
    grants := Plant.powerOn.grants.set 4 (some ⟨.run, ⟨2, 0, 0⟩, false⟩) }

theorem test_pass :
    (contended false).priority.Nodup ∧ (contended false).exhausted 1 = true ∧ (contended false).passOrder = [0, 2, 1]
      ∧ (∀ c ∈ (contended false).passOrder, (contended false).isAnchored c = false) ∧ (contended false).passGrants = [2, 1]
      ∧ (contended true).isAnchored 0 = true ∧ (contended true).passGrants = [2] := by decide +kernel

theorem test_pass_skips_and_anchor :
    ((contended false).pass 4).1.claims[(0 : Chan)] = some ⟨.run, ⟨3, 0, 0⟩, 4, true, false⟩
      ∧ ((contended false).pass 5).1.claims[(0 : Chan)] = some ⟨.run, ⟨3, 0, 0⟩, 5, true, false⟩
      ∧ ((contended false).pass 6).1.claims[(0 : Chan)] = some ⟨.run, ⟨3, 0, 0⟩, 5, false, false⟩
      ∧ ((contended true).pass 4).1.claims[(1 : Chan)] = some ⟨.run, ⟨1, 0, 0⟩, 0, false, false⟩
      ∧ ((contended true).pass 4).1.grants[(2 : Chan)] = some ⟨.run, ⟨0, 1, 0⟩, false⟩
      ∧ ((contended true).pass 4).1.tokens = (contended true).tokens
      ∧ ((contended true).pass 4).1.claims[(3 : Chan)] = none := by decide +kernel

theorem test_rotation :
    let p : Plant :=
      { Plant.powerOn with
        scheme := .rotating
        claims :=
          ((Plant.powerOn.claims.set 0 (some ⟨.run, ⟨2, 0, 0⟩, 0, false, true⟩)).set 2 (some ⟨.run, ⟨1, 0, 0⟩, 0, false, false⟩)) }
    p.priority.Nodup ∧ (p.pass 4).2 = [0, 2] ∧ (p.pass 4).1.priority = [3, 4, 5, 6, 7, 0, 1, 2] := by decide +kernel

/-- A run with hot water on a channel that has three tokens of five left, the refresh timer at a count. -/
def hotRun (n : Nat) : State :=
  { washing .running 1 0 with
    plant :=
      { yard.plant with
        grants := yard.plant.grants.set 0 (some ⟨.run, ⟨2, 0, 1⟩, false⟩), tokens := yard.plant.tokens.set 0 ⟨5, 3⟩
        refreshTimer := n } }

theorem test_second_tick :
    tokenCharge (hotRun 0) 0 = 2 ∧ (hotRun 0).clock.minuteDue = false
      ∧ (after (.secondTick false) (hotRun 598)).plant.tokens[(0 : Chan)] = ⟨5, 1⟩
      ∧ (after (.secondTick false) (hotRun 598)).plant.refreshDue = false
      ∧ (after (.secondTick false) (hotRun 599)).plant.refreshDue = true
      ∧ (after .refresh (after (.secondTick false) (hotRun 599))).plant.tokens[(0 : Chan)] = ⟨5, 5⟩
      ∧ (after (.secondTick true) (hotRun 599)).plant.tokens[(0 : Chan)] = ⟨5, 3⟩
      ∧ ((after (.secondTick false) (hotRun 0)).chan 0).run = some ⟨0, 1, 0, 0, 1, 0⟩
      ∧ ((after (.secondTick false) yard).lane 0).noFlow = 1 := by decide +kernel

/-- The small yard with a minute tick due. -/
def minuteComing (m : Nat) : State := { yard with clock := ⟨0, 59, m, true⟩ }

theorem test_second_tick_of_pairs_and_minutes :
    (after (.secondTick true) (minuteComing 300)).clock = ⟨0, 1, 301, false⟩
      ∧ ((after (.secondTick false) (washingPair .running 1 0)).chan 1).run = none
      ∧ ((after (.secondTick false) (washingPair .running 1 0)).chan 0).run = some ⟨0, 1, 0, 0, 1, 0⟩
      ∧ ((after (.secondTick false) (washingPair .paused 2 0)).chan 1).pauseTimer = 0
      ∧ ((after (.secondTick false) (washingPair .paused 2 0)).chan 0).pauseTimer = 1 := by decide +kernel

theorem test_timers_of_a_tick :
    ((after (.secondTick false) (draining 19 .flowShort)).chan 0).drainTimer = 20
      ∧ ((after (.secondTick false) ((washing .paused 2 0).modChan 0 fun y => { y with pauseTimer := 299 })).chan 0).pauseDue
          = true
      ∧ ((after (.secondTick false) (yard.setLane 0 { yard.lane 0 with noFlow := 19 })).lane 0).noFlowDue = true
      ∧ (after (.secondTick false) { yard with clock := ⟨3, 59, 7, false⟩ }).clock = ⟨0, 59, 7, true⟩ := by decide +kernel

theorem test_minute_tick :
    (after .minuteTick (minuteComing 16777215)).clock = ⟨0, 0, 0, false⟩
      ∧ ((after .minuteTick (minuteComing 16777215)).comp 4).hold = some .certExpired
      ∧ ((after .minuteTick (minuteComing 16777215)).port 0).flags = [⟨1, 5⟩, ⟨2, 5⟩]
      ∧ ((after .minuteTick (minuteComing 300)).comp 5).state = .filling
      ∧ (after .minuteTick yard).clock = yard.clock := by decide +kernel

theorem test_refresh :
    (after .refresh yard).plant.refreshTimer = 0 ∧ yard.plant.refreshDue = false
      ∧ (after .refresh { hotRun 600 with plant := { (hotRun 600).plant with refreshDue := true } }).plant.refreshTimer = 0
      ∧ (after .refresh (hotRun 600)).plant.refreshTimer = 600 := by decide +kernel

/-! ## Inspections and probe lines -/

theorem test_inspect_is_checked :
    answerTo (.inspect (ask 1 [3, 1])) 1 { yard with yardOpen := false } = some [15]
      ∧ answerTo (.inspect (ask 1 [97, 1])) 1 yard = some [3] ∧ answerTo (.inspect (ask 1 [3, 3])) 1 yard = some [3]
      ∧ answerTo (.inspect (ask 1 [96, 1])) 1 yard = some [4] ∧ answerTo (.inspect (ask 2 [3, 1])) 2 yard = some [2]
      ∧ answerTo (.inspect (ask 1 [1, 1])) 1 yard = some [5] ∧ answerTo (.inspect (ask 1 [3, 2])) 1 yard = some [13]
      ∧ answerTo (.inspect (ask 1 [3, 1])) 1 (yard.modLine 0 fun x => { x with state := .closing }) = some [6] := by
  decide +kernel

theorem test_inspect :
    ((after (.inspect (ask 1 [3, 1])) yard).comp 2).state = .inspecting
      ∧ ((after (.inspect (ask 1 [3, 1])) yard).line 0).timers.powerUp = some ⟨10, 480⟩
      ∧ (after (.inspect (ask 1 [3, 1])) yard).inspection 0
          = some ⟨2, 0, .opening, ⟨100, 200, 300, 50⟩, 2, 0, ⟨0, 0, 0, 0⟩⟩ := by decide +kernel

/-- A session on line PA for record 3 with one good sample taken, in a state. -/
def session (x : LineState) (f : ProbeLine → ProbeLine) : State :=
  ((yard.setComp 2 (record .inspecting 0 2)).setInspection 0
      (some ⟨2, 0, .sampling, ⟨100, 200, 300, 50⟩, 2, 1, ⟨0, 0, 0, 0⟩⟩)).setLine 0
    (f { ProbeLine.powerOn true with state := x, docked := true, debounce := none, bound := some 2, maxLength := 64 })

/-- The same with two tries behind it. -/
def lastTry (x : LineState) : State := (session x id).setComp 2 { record .inspecting 0 2 with tries := 2 }

theorem test_cancel_inspect :
    ((session .sending id).comp 2).state = .inspecting ∧ ((session .sending id).line 0).state.inSession = true
      ∧ ((after (.cancelInspect (ask 0 [1])) (session .sending id)).line 0).state = .closing
      ∧ ((after (.cancelInspect (ask 0 [1])) (session .sending id)).comp 2).state = .inspectWait
      ∧ ((after (.cancelInspect (ask 0 [1])) (session .sending id)).port 1).flags = [⟨4, 1⟩]
      ∧ answerTo (.cancelInspect (ask 2 [1])) 2 (session .sending id) = some [2]
      ∧ answerTo (.cancelInspect (ask 1 [2])) 1 (session .sending id) = some [5]
      ∧ answerTo (.cancelInspect (ask 1 [3])) 1 (session .sending id) = some [3] := by decide +kernel

theorem test_link_error :
    ((linkError 0 .parity (session .ready id)).comp 2).tries = 1 ∧ linkError 1 .parity yard = yard
      ∧ ((linkError 0 .parity (lastTry .ready)).comp 2).hold = some .probeFail
      ∧ ((linkError 0 .parity (lastTry .ready)).port 0).flags = [⟨1, 3⟩]
      ∧ ((linkError 0 .parity (lastTry .ready)).line 0).lastError = some .parity
      ∧ ((linkError 0 .parity (lastTry .ready)).line 0).timers.off = some ⟨20, 480⟩ := by
  refine ⟨?_, rfl, ?_⟩ <;> decide +kernel

theorem test_dock :
    ((after (.pdockChange 0 false) yard).line 0).debounce = some 50 ∧ ((after (.pdockChange 0 true) yard).line 0).debounce = none
      ∧ ((after (.dockDebounceExpiry 0) (after (.pdockChange 0 false) yard)).line 0).state = .detached
      ∧ ((after (.dockDebounceExpiry 1) (after (.pdockChange 1 true) yard)).line 1).state = .docked
      ∧ ((after (.dockDebounceExpiry 0) (after (.pdockChange 0 false) (session .ready id))).line 0).lastError
          = some .undocked
      ∧ ((after (.dockDebounceExpiry 0) yard).line 0) = yard.line 0 := by decide +kernel

theorem test_phases :
    ((after (.powerUpExpiry 0) (session .powering id)).line 0).timers.reset = some ⟨200, 480⟩
      ∧ ((after (.resetLengthExpiry 0) (session .resetting id)).line 0).timers.sync = some ⟨40000, 480⟩
      ∧ ((after (.offTimerExpiry 0) (session .closing id)).line 0).state = .docked
      ∧ ((after (.offTimerExpiry 0) (session .closing fun x => { x with docked := false })).line 0).state = .detached
      ∧ ((after (.offTimerExpiry 0) (session .ready id)).line 0).state = .ready := by decide +kernel

/-- A running timer. -/
def running : Option LineTimer := some ⟨60, 480⟩

theorem test_limits_of_a_session :
    ((after (.syncTimeout 0) (session .opening fun x => { x with timers := { x.timers with sync := running } })).line 0).lastError
        = some .openTimeout
      ∧ ((after (.openLimitExpiry 0)
          (session .opening fun x => { x with timers := { x.timers with opening := running } })).line 0).lastError
        = some .openTimeout
      ∧ ((after (.blockWaitExpiry 0) (session .awaiting id)).line 0).lastError = some .replyTimeout
      ∧ ((after (.charWaitExpiry 0)
          (session .receiving fun x => { x with timers := { x.timers with charWait := running } })).line 0).exchange.repeats = 1
      ∧ ((after (.charWaitExpiry 0)
          (session .receiving fun x =>
            { x with
              exchange := { x.exchange with repeats := 2 }, timers := { x.timers with charWait := running } })).line 0).lastError
        = some .blockErrors := by decide +kernel

/-- A session sending two characters, begun or not, at a transmission. -/
def sendingTwo (started : Bool) (n : Nat) : State :=
  session .sending fun x => { x with sending := some ⟨[1, 0x10], started, false⟩, transmissions := n }

theorem test_blocks_are_sent :
    ((sendingTwo false 0).line 0).sending = some ⟨[1, 0x10], false, false⟩
      ∧ ((after (.blockSendStart 0) (sendingTwo false 0)).line 0).sending = some ⟨[1, 0x10], true, true⟩
      ∧ ((after (.characterSent 0 true) (sendingTwo true 3)).line 0).transmissions = 4
      ∧ ((after (.characterSent 0 true) (sendingTwo true 4)).line 0).lastError = some .charRetry
      ∧ ((after (.characterSent 0 false) (sendingTwo true 4)).line 0).sending = some ⟨[0x10], true, true⟩
      ∧ ((after (.characterSent 0 false) (session .sending fun x => { x with sending := some ⟨[1], true, true⟩ })).line 0).state
          = .awaiting := by decide +kernel

theorem test_settings_of_the_small_yard : SettingsInRange yard := by
  intro x
  cases x <;> decide +kernel

theorem test_measure :
    ((measure 0 (session .ready id)).line 0).sending = some ⟨[1, 0x10, 1, 0x21, 0x31], false, false⟩
      ∧ ((measure 0 (session .ready fun x => { x with checkMode := .crc })).line 0).sending
          = some ⟨[1, 0x10, 1, 0x21, 0xB6, 0x65], false, false⟩
      ∧ probeCrc [0x31, 0x32, 0x33, 0x34, 0x35, 0x36, 0x37, 0x38, 0x39] = 0x29B1
      ∧ evenParity 1 = true ∧ evenParity 3 = false := by decide +kernel

theorem test_driven_character :
    drivenCharacter (sendingTwo true 1) 0 = some ⟨1, false⟩ ∧ drivenCharacter (sendingTwo false 0) 0 = none
      ∧ drivenCharacter (session .sending fun x => { x with sending := some ⟨[0x13], true, true⟩, bitOrder := .msbFirst }) 0
          = some ⟨0xC8, true⟩
      ∧ drivenCharacter { sendingTwo true 1 with resetPin := true } 0 = none ∧ drivenCharacter yard 0 = none := by decide +kernel

/-- A character of good parity. -/
def good (b : Byte) : ProbeChar := ⟨b, evenParity b⟩

theorem test_sync_character :
    ((after (.probeCharacterReceived 0 (good 0xA6)) (session .opening id)).line 0).received = [0xA6]
      ∧ ((after (.probeCharacterReceived 0 (good 0x65)) (session .opening id)).line 0).bitOrder = .msbFirst
      ∧ ((after (.probeCharacterReceived 0 (good 0xA5)) (session .opening id)).line 0).lastError = some .badSync
      ∧ ((after (.probeCharacterReceived 0 ⟨0xA6, true⟩) (session .opening id)).line 0).badReceptions = 1
      ∧ ((after (.probeCharacterReceived 0 ⟨0xA6, true⟩) (session .opening fun x => { x with badReceptions := 3 })).line 0).lastError
          = some .parity
      ∧ ((after (.probeCharacterReceived 0 (good 1)) (session .ready id)).line 0).lastError = some .protocol := by
  decide +kernel

theorem test_good_characters_clear_the_count :
    ((after (.probeCharacterReceived 0 (good 0xA5)) (session .opening fun x => { x with badReceptions := 2 })).line 0).badReceptions
        = 0
      ∧ ((after (.probeCharacterReceived 0 (good 11))
          (session .opening fun x => { x with badReceptions := 2, received := [0xA6] })).line 0).badReceptions = 0
      ∧ ((after (.probeCharacterReceived 0 (good 11))
          (session .opening fun x => { x with received := [0xA6] })).line 0).lastError = some .protocol := by decide +kernel

/-- An opening reply of which these characters stand, all timers running. -/
def replying (o : BitOrder) (bytes : List Byte) : State :=
  session .opening fun x =>
    { x with bitOrder := o, received := bytes, timers := { x.timers with opening := running, charWait := running } }

theorem test_reply_characters :
    ((after (.probeCharacterReceived 0 (good 20)) (replying .lsbFirst [0xA6])).line 0).received = [0xA6, 20]
      ∧ ((after (.probeCharacterReceived 0 (good 0x30)) (replying .msbFirst [0xA6])).line 0).received = [0xA6, 12]
      ∧ ((after (.probeCharacterReceived 0 (good 21)) (replying .lsbFirst [0xA6])).line 0).lastError = some .protocol
      ∧ ((after (.probeCharacterReceived 0 ⟨5, true⟩) (replying .lsbFirst [0xA6, 12])).line 0).badReceptions = 1
      ∧ ((after (.probeCharacterReceived 0 (good 5)) (replying .lsbFirst ([0xA6, 12] ++ List.replicate 11 0))).line 0).timers.opening
          = running
      ∧ ((after (.probeCharacterReceived 0 (good 5)) (replying .lsbFirst ([0xA6, 12] ++ List.replicate 12 0))).line 0).timers.opening
          = none
      ∧ ((after (.probeCharacterReceived 0 (good 5)) (replying .lsbFirst ([0xA6, 12] ++ List.replicate 13 0))).line 0).lastError
          = some .openCheck
      ∧ (after (.openingReply 0) (replying .lsbFirst [0xA6, 12, 0])).line 0 = (replying .lsbFirst [0xA6, 12, 0]).line 0 := by
  decide +kernel

/-- A complete opening reply without vendor bytes: age, speed, guard, check mode and block length as given, its LRC right. -/
def replied (age speed guard check size : Byte) : State :=
  session .opening fun x =>
    { x with
      received := [0xA6, 11, 0, 0, 0, 0, 0, 0, age, speed, guard, check, size,
        lrc [11, 0, 0, 0, 0, 0, 0, age, speed, guard, check, size]] }

theorem test_opening_reply :
    (11 : Byte).toNat = ([] : List Byte).length + 11
      ∧ ((after (.openingReply 0) (replied 180 7 243 1 64)).line 0).state = .sending
      ∧ ((after (.openingReply 0) (replied 180 7 243 1 64)).line 0).speed = 4
      ∧ ((after (.openingReply 0) (replied 181 7 243 1 64)).line 0).lastResult = some .calExpired
      ∧ ((after (.openingReply 0) (replied 0 8 0 0 16)).line 0).lastError = some .protocol
      ∧ ((after (.openingReply 0) (replied 0 0 0 0 15)).line 0).lastError = some .protocol
      ∧ ((after (.openingReply 0) (replied 0 0 0 0 16)).line 0).maxLength = 16
      ∧ ((after (.openingReply 0) ((replied 0 0 0 0 16).modLine 0 fun x => { x with received := x.received.set 12 17 })).line 0).lastError
          = some .openCheck := by decide +kernel

/-- A complete block from the probe with its LRC. -/
def blockIn (block : List Byte) (waits repeats : Nat) : State :=
  session .receiving fun x =>
    { x with
      received := block ++ [lrc block]
      exchange := ⟨[1, 0x10, 1, 0x21, 0x31], waits, repeats, none⟩ }

/-- A MEASURE answer with a film reading. -/
def measured (film : Byte) : List Byte := [0x21, 0, film, 0, 0, 0, 0, 0, 0, 0]

theorem test_block_received :
    ((after (.blockReceived 0) (blockIn [2, 0x30, 1, 15] 2 0)).line 0).exchange.factor = some 15
      ∧ ((after (.blockReceived 0) (blockIn [2, 0x30, 1, 15] 3 0)).line 0).lastError = some .waitLimit
      ∧ ((after (.blockReceived 0) (blockIn [2, 0x30, 1, 16] 0 0)).line 0).lastError = some .protocol
      ∧ ((after (.blockReceived 0) (blockIn [2, 0x20, 0] 0 1)).line 0).exchange.repeats = 2
      ∧ ((after (.blockReceived 0) (blockIn [2, 0x20, 0] 0 2)).line 0).lastError = some .blockErrors
      ∧ ((after (.blockReceived 0) (blockIn [1, 0x10, 0] 0 0)).line 0).lastError = some .protocol
      ∧ ((after (.blockReceived 0) ((blockIn [2, 0x10, 0] 0 0).modLine 0 fun x => { x with received := [2, 0x10, 0, 0] })).line 0).sending
          = some ⟨[1, 0x20, 0, 0x21], false, false⟩ := by decide +kernel

/-- A block of which these characters stand. -/
def arriving (bad : Bool) (bytes : List Byte) : State :=
  session .receiving fun x => { x with badLength := bad, received := bytes, timers := { x.timers with charWait := running } }

theorem test_block_not_complete :
    (after (.blockReceived 0) (arriving false [2, 0x10, 1, 5])).line 0 = (arriving false [2, 0x10, 1, 5]).line 0
      ∧ (after (.blockReceived 0) (arriving true [2, 0x10, 65])).line 0 = (arriving true [2, 0x10, 65]).line 0
      ∧ (arriving true [2, 0x10, 65]).resetPin = false := by decide +kernel

theorem test_block_characters :
    ((after (.probeCharacterReceived 0 (good 2))
        (session .awaiting fun x =>
          { x with exchange := { x.exchange with factor := some 3 }, timers := { x.timers with blockWait := running } })).line 0)
      = { (session .receiving id).line 0 with
          received := [2]
          timers := { LineTimers.stopped with charWait := running, blockGuard := some ⟨24, 480⟩ } }
      ∧ ((after (.probeCharacterReceived 0 ⟨2, false⟩) (arriving false [2])).line 0).badReceptions = 1
      ∧ ((after (.probeCharacterReceived 0 (good 65)) (arriving false [2, 0x10])).line 0).badLength = true
      ∧ ((after (.probeCharacterReceived 0 (good 64)) (arriving false [2, 0x10])).line 0).badLength = false
      ∧ ((after (.probeCharacterReceived 0 (good 9)) (arriving true [2, 0x10, 65])).line 0).received = [2, 0x10, 65]
      ∧ ((after (.probeCharacterReceived 0 (good 9)) (arriving false [2, 0x10, 0])).line 0).timers.charWait = none
      ∧ ((after (.probeCharacterReceived 0 (good 9)) (blockIn [2, 0x20, 0] 0 1)).line 0).exchange.repeats = 2
      ∧ ((after (.blockReceived 0)
          (session .receiving fun x => { x with checkMode := .crc, received := [2, 0x20, 0, 0xA4, 0x1A] })).line 0).exchange.repeats
          = 1 := by decide +kernel

theorem test_samples_are_judged :
    ((after (.blockReceived 0) (blockIn ([2, 0x10, 10] ++ measured 100) 0 0)).comp 2).state = .cleared
      ∧ ((after (.blockReceived 0) (blockIn ([2, 0x10, 10] ++ measured 101) 0 0)).comp 2).hold = some .inspectFail
      ∧ ((after (.blockReceived 0) (blockIn ([2, 0x10, 10] ++ measured 101) 0 0)).comp 2).readings
          = some ⟨⟨101, 0, 0, 0⟩, [.film]⟩
      ∧ ((after (.blockReceived 0) (blockIn ([2, 0x10, 1, 0x21]) 0 0)).comp 2).tries = 1 := by decide +kernel

/-! ## Fill lanes -/

theorem test_authorize_fill_is_checked :
    answerTo (.authorizeFill (ask 5 [2, 5, 5, 1, 0])) 5 { yard with yardOpen := false } = some [15]
      ∧ answerTo (.authorizeFill (ask 5 [3, 5, 5, 1, 0])) 5 yard = some [3]
      ∧ answerTo (.authorizeFill (ask 5 [2, 5, 32, 1, 0])) 5 yard = some [3]
      ∧ answerTo (.authorizeFill (ask 5 [1, 5, 5, 1, 0])) 5 yard = some [6]
      ∧ answerTo (.authorizeFill (ask 5 [2, 96, 5, 1, 0])) 5 yard = some [4]
      ∧ answerTo (.authorizeFill (ask 5 [2, 1, 5, 1, 0])) 5 yard = some [5]
      ∧ answerTo (.authorizeFill (ask 5 [2, 5, 5, 1, 0])) 5 (after (.armDrop 1) yard) = some [14]
      ∧ answerTo (.authorizeFill (ask 5 [2, 5, 7, 1, 0])) 5 yard = some [11]
      ∧ answerTo (.authorizeFill (ask 5 [2, 5, 5, 0xE9, 3])) 5 yard = some [3]
      ∧ answerTo (.authorizeFill (ask 5 [2, 5, 5, 0, 0])) 5 yard = some [3] := by decide +kernel

theorem test_authorize_fill :
    answerTo (.authorizeFill (ask 5 [2, 5, 6, 0xE8, 3])) 5 yard = some [0] ∧ yard.cell 5 6 = .none
      ∧ ((after (.authorizeFill (ask 5 [2, 5, 6, 0xE8, 3])) yard).lane 1).context = some ⟨4, 6, 1000⟩
      ∧ ((after (.authorizeFill (ask 5 [2, 5, 5, 1, 0])) yard).comp 4).state = .filling := by decide +kernel

/-- Lane L1 settling with a count, so many seconds gone of five. -/
def settling (n seconds : Nat) : State :=
  yard.setLane 0
    { yard.lane 0 with
      state := .settling, counter := n, capture := 99, cause := some .stopped, settle := seconds, settleTime := 5 }

theorem test_valve_closes :
    ((after (.laneMeterPulse 0) yard).lane 0).cause = some .complete
      ∧ ((after (.laneMeterPulse 0) (settling 99 0)).lane 0).counter = 100
      ∧ ((after (.laneMeterPulse 1) yard).lane 1) = yard.lane 1
      ∧ ((after (.noFlowExpiry 0) (yard.setLane 0 { yard.lane 0 with noFlowDue := true })).lane 0).cause = some .noFlow
      ∧ ((after (.armDrop 0) yard).lane 0).cause = some .armLost
      ∧ ((after (.stopFill (ask 0 [1])) yard).lane 0).cause = some .stopped
      ∧ answerTo (.stopFill (ask 5 [2])) 5 yard = some [5] ∧ answerTo (.stopFill (ask 5 [3])) 5 yard = some [3] := by
  decide +kernel

theorem test_fill_ends :
    ((after (.settleExpiry 0) (settling 101 5)).comp 5).fill = some ⟨0, 5, 100, 101, .stopped⟩
      ∧ ((after (.settleExpiry 0) (settling 101 5)).port 0).flags = [⟨4, 6⟩]
      ∧ ((after (.settleExpiry 0) (settling 101 5)).port 5).flags = [⟨1, 1⟩]
      ∧ ((after (.settleExpiry 0) (settling 0 5)).comp 5).state = .cleared
      ∧ ((after (.settleExpiry 0) (settling 101 4)).lane 0).state = .settling := by decide +kernel

/-! ## The laws hold in a working yard -/

theorem test_bookkeeping_laws_of_the_small_yard :
    DeparturesFit yard ∧ TokensWithin (hotRun 0) ∧ ClockInRange yard ∧ CountersStop yard ∧ NoticesOrdered (noticed true)
      ∧ PriorityComplete yard ∧ GrantsWithin (hotRun 0) := by
  refine ⟨?_, ?_, ?_, ?_, ?_, List.Perm.refl _, ?_⟩
  · unfold DeparturesFit; decide +kernel
  · unfold TokensWithin; decide +kernel
  · unfold ClockInRange; decide +kernel
  · unfold CountersStop; decide +kernel
  · unfold NoticesOrdered; decide +kernel
  · unfold GrantsWithin; decide +kernel

theorem test_lists_of_the_small_yard : ListsDistinct yard := by
  have h : ∀ i : Tanker, ∀ t ∈ yard.tanker i, t.compartments.Nodup := by decide +kernel
  exact fun i t ht => h i t ht

theorem test_configuration_of_the_small_yard : ConfigurationSound staged := by
  unfold ConfigurationSound
  decide +kernel

theorem test_records_of_the_small_yard : RecordsSound (washing .running 1 0) := by
  unfold RecordsSound
  decide +kernel

theorem test_lines_of_a_session : LinesServe (session .ready id) := by
  have h1 : ∀ l : Line, ((session .ready id).line l).state.inSession = true ↔ ((session .ready id).line l).bound.isSome = true := by
    decide +kernel
  have h2 : ∀ l : Line, ((session .ready id).line l).bound = ((session .ready id).inspection l).map fun x => x.comp := by
    decide +kernel
  have h3 : ∀ l : Line, ∀ i ∈ ((session .ready id).line l).bound, ((session .ready id).comp i).state = .inspecting := by
    decide +kernel
  have h4 : ∀ i : Comp, ((session .ready id).comp i).state = .inspecting → ∃ l : Line, ((session .ready id).line l).bound = some i := by
    decide +kernel
  have h5 : ∀ l m : Line, ∀ i ∈ ((session .ready id).line l).bound, ((session .ready id).line m).bound = some i → l = m := by
    decide +kernel
  exact ⟨h1, h2, fun l i h => h3 l i h, h4, fun l m i hl hm => h5 l m i hl hm⟩

theorem test_a_step_of_the_small_yard_answers_next :
    step { yard with pending := [.armDrop 0] } = .next (after (.armDrop 0) yard) := rfl

end Sys2Proof.Tests
end

section
/-! BOOK (R4, R5, R188): its payload is read as the one fleet number and list of descriptions in range that spell it, its checks are
taken in order, and an accepted one books the lowest FREE slot and records. -/

namespace Sys2Proof.Machine

open Sys2Proof (Byte Comp Tanker CargoClass)

/-! ## Bytes (R187) -/

theorem byte_toNat (b : Byte) : byte b.toNat = b := BitVec.ofNat_toNat ..

theorem toNat_byte (n : Nat) : (byte n).toNat = n % 256 := BitVec.toNat_ofNat ..

theorem read2_word2 {n : Nat} (h : n < 65536) : read2 (byte n) (byte (n / 256)) = n := by
  rw [read2, toNat_byte, toNat_byte]
  omega

theorem word2_read2 (a b : Byte) : word2 (read2 a b) = [a, b] := by
  have ha := a.isLt
  have hlow : byte (read2 a b) = a := by
    apply BitVec.eq_of_toNat_eq
    rw [toNat_byte, read2]
    omega
  have hhigh : read2 a b / 256 = b.toNat := by
    rw [read2]
    omega
  rw [word2, hlow, hhigh, byte_toNat]

theorem read2_lt (a b : Byte) : read2 a b < 65536 := by
  have ha := a.isLt
  have hb := b.isLt
  rw [read2]
  omega

/-! ## Classes (R27, R188) -/

theorem class0?_eq_some {n : Byte} {c : CargoClass} : class0? n = some c ↔ n = byte c.val := by
  have hc := c.isLt
  unfold class0?
  constructor
  · intro h
    split at h
    · rw [← Option.some.inj h, byte_toNat]
    · exact nomatch h
  · rintro rfl
    have hn : (byte c.val).toNat = c.val := by
      rw [toNat_byte]
      omega
    simp [hn, hc]

theorem class1?_eq_some {n : Byte} {c : CargoClass} : class1? n = some c ↔ c ≠ 0 ∧ n = byte c.val := by
  have hc := c.isLt
  unfold class1?
  constructor
  · intro h
    split at h
    · next hn =>
      rw [← Option.some.inj h, byte_toNat]
      exact ⟨fun e => absurd (congrArg Fin.val e) (Nat.ne_of_gt hn.1), rfl⟩
    · exact nomatch h
  · rintro ⟨h0, rfl⟩
    have hn : (byte c.val).toNat = c.val := by
      rw [toNat_byte]
      omega
    have hpos : 0 < c.val := Fin.pos_iff_ne_zero.mpr h0
    simp [hn, hc, hpos]

theorem nextClass?_absent : nextClass? 0xFF = some none := rfl

theorem nextClass?_present {n : Byte} (h : n ≠ 0xFF) : nextClass? n = (class1? n).map some := by
  unfold nextClass?
  rw [if_neg h]
  cases class1? n <;> rfl

theorem classByte_some_ne (c : CargoClass) : classByte (some c) ≠ 0xFF := by
  intro h
  have hn : (byte c.val).toNat = 255 := congrArg BitVec.toNat h
  rw [toNat_byte] at hn
  omega

/-- A next class is read as the one class, or none, that its byte is sent for (R188). -/
theorem nextClass?_eq_some {n : Byte} {x : Option CargoClass} :
    nextClass? n = some x ↔ (∀ c ∈ x, c ≠ 0) ∧ n = classByte x := by
  by_cases hn : n = 0xFF
  · subst hn
    rw [nextClass?_absent]
    cases x with
    | none => simp [classByte]
    | some c => exact ⟨nofun, fun h => absurd h.2.symm (classByte_some_ne c)⟩
  · rw [nextClass?_present hn, Option.map_eq_some_iff]
    cases x with
    | none => exact ⟨fun ⟨_, _, h⟩ => (nomatch h), fun h => absurd h.2 hn⟩
    | some c => simp [class1?_eq_some, classByte]

/-! ## Descriptions and the payload (R4, R188) -/

theorem Description.inRange_iff (d : Description) :
    d.inRange = true
      ↔ (100 ≤ d.capacity ∧ d.capacity ≤ 30000 ∧ (d.hatches = 1 ∨ d.hatches = 2)) ∧ ∀ c ∈ d.nextClass, c ≠ 0 := by
  unfold Description.inRange
  simp [Option.all_eq_true]

theorem Description.bytes_eq (d : Description) :
    d.bytes = [byte d.capacity, byte (d.capacity / 256), byte d.hatches, byte d.lastClass.val, classByte d.nextClass] := rfl

/-- Five bytes that are read as a description are that description's bytes, and it is in range. -/
theorem description?_some {c0 c1 h last next : Byte} {d : Description} (hd : description? c0 c1 h last next = some d) :
    d.inRange = true ∧ [c0, c1, h, last, next] = d.bytes := by
  unfold description? at hd
  split at hd
  · next l x hl hx =>
    split at hd
    · next hr =>
      obtain ⟨hlow, hhigh, hh⟩ := hr
      obtain rfl := Option.some.inj hd
      obtain ⟨hclass, hnext⟩ := nextClass?_eq_some.mp hx
      have hhatch : h.toNat = 1 ∨ h.toNat = 2 := hh.imp (congrArg BitVec.toNat) (congrArg BitVec.toNat)
      refine ⟨(Description.inRange_iff _).mpr ⟨⟨hlow, hhigh, hhatch⟩, hclass⟩, ?_⟩
      show _ = word2 (read2 c0 c1) ++ [byte h.toNat, byte l.val, classByte x]
      rw [word2_read2, byte_toNat, ← class0?_eq_some.mp hl, ← hnext]
      rfl
    · exact nomatch hd
  · exact nomatch hd

/-- The bytes of a description in range are read as it. -/
theorem description?_bytes {d : Description} (hd : d.inRange = true) :
    description? (byte d.capacity) (byte (d.capacity / 256)) (byte d.hatches) (byte d.lastClass.val) (classByte d.nextClass)
      = some d := by
  obtain ⟨⟨hlow, hhigh, hh⟩, hclass⟩ := d.inRange_iff.mp hd
  have hl : class0? (byte d.lastClass.val) = some d.lastClass := class0?_eq_some.mpr rfl
  have hx : nextClass? (classByte d.nextClass) = some d.nextClass := nextClass?_eq_some.mpr ⟨hclass, rfl⟩
  have hc : read2 (byte d.capacity) (byte (d.capacity / 256)) = d.capacity := read2_word2 (by omega)
  have hb : byte d.hatches = 1 ∨ byte d.hatches = 2 := hh.imp (congrArg byte) (congrArg byte)
  have hn : (byte d.hatches).toNat = d.hatches := by
    rw [toNat_byte]
    omega
  simp only [description?, hl, hx, hc, hn]
  exact if_pos ⟨hlow, hhigh, hb⟩

theorem descriptions?_some {n : Nat} {l : List Byte} {ds : List Description} (h : descriptions? n l = some ds) :
    ds.length = n ∧ (∀ d ∈ ds, d.inRange = true) ∧ l = (ds.map Description.bytes).flatten := by
  fun_induction descriptions? n l generalizing ds with
  | case1 =>
    obtain rfl := Option.some.inj h
    simp
  | case2 n c0 c1 k last next rest es d hes hd ih =>
    obtain rfl := Option.some.inj h
    obtain ⟨hr, hb⟩ := description?_some hd
    obtain ⟨hlen, hall, hrest⟩ := ih hes
    refine ⟨by simp [hlen], List.forall_mem_cons.mpr ⟨hr, hall⟩, ?_⟩
    rw [List.map_cons, List.flatten_cons, ← hb, ← hrest]
    rfl
  | case3 => exact nomatch h
  | case4 => exact nomatch h

theorem descriptions?_bytes {ds : List Description} (h : ∀ d ∈ ds, d.inRange = true) :
    descriptions? ds.length (ds.map Description.bytes).flatten = some ds := by
  induction ds with
  | nil => rfl
  | cons d ds ih =>
    obtain ⟨hd, hds⟩ := List.forall_mem_cons.mp h
    rw [List.map_cons, List.flatten_cons, Description.bytes_eq]
    simp only [List.length_cons, List.cons_append, List.nil_append, descriptions?, description?_bytes hd, ih hds]

/-- A BOOK's payload is read as the fleet number and descriptions in range that spell it, and as nothing where none do (R4, R188). -/
theorem bookArgs?_eq_some {payload : List Byte} {fleet : Nat} {ds : List Description} :
    bookArgs? payload = some (fleet, ds) ↔ BookInRange fleet ds ∧ payload = bookPayload fleet ds := by
  constructor
  · intro h
    unfold bookArgs? at h
    split at h
    · next f0 f1 n rest =>
      split at h
      · next hr =>
        obtain ⟨es, hes, he⟩ := Option.map_eq_some_iff.mp h
        obtain ⟨rfl, rfl⟩ := Prod.mk.inj he
        obtain ⟨hlen, hall, hrest⟩ := descriptions?_some hes
        obtain ⟨hfleet, hone, height⟩ := hr
        refine ⟨⟨Nat.pos_of_ne_zero hfleet, Nat.le_of_lt_succ (read2_lt f0 f1), hlen ▸ hone, hlen ▸ height, hall⟩, ?_⟩
        rw [bookPayload, word2_read2, hlen, byte_toNat, ← hrest]
        rfl
      · exact nomatch h
    · exact nomatch h
  · rintro ⟨⟨hone, hmax, hcount, height, hall⟩, rfl⟩
    have hf : read2 (byte fleet) (byte (fleet / 256)) = fleet := read2_word2 (by omega)
    have hn : (byte ds.length).toNat = ds.length := by
      rw [toNat_byte]
      omega
    have hr : read2 (byte fleet) (byte (fleet / 256)) ≠ 0 ∧ 1 ≤ (byte ds.length).toNat ∧ (byte ds.length).toNat ≤ 8 := by
      omega
    have hread : bookArgs? (bookPayload fleet ds)
        = (descriptions? (byte ds.length).toNat (ds.map Description.bytes).flatten).map
            fun es => (read2 (byte fleet) (byte (fleet / 256)), es) := if_pos hr
    rw [hread, hn, hf, descriptions?_bytes hall]
    rfl

theorem bookArgs?_eq_none {payload : List Byte} (h : ∀ fleet ds, BookInRange fleet ds → payload ≠ bookPayload fleet ds) :
    bookArgs? payload = none :=
  Option.eq_none_iff_forall_ne_some.mpr fun (fleet, ds) ha =>
    let ⟨hr, hp⟩ := bookArgs?_eq_some.mp ha
    h fleet ds hr hp

/-! ## What the checks look at (R4) -/

theorem fleetInUse_iff (s : State) (fleet : Nat) :
    fleetInUse s fleet = true ↔ ∃ (i : Tanker) (t : TankerData), s.tanker i = some t ∧ t.fleet = fleet := by
  simp [fleetInUse, Option.any_eq_true]

theorem fleetInUse_eq_false {s : State} {fleet : Nat}
    (h : ¬∃ (i : Tanker) (t : TankerData), s.tanker i = some t ∧ t.fleet = fleet) : fleetInUse s fleet = false :=
  Bool.eq_false_iff.mpr (mt (fleetInUse_iff s fleet).mp h)

/-- With nothing between the readings, a BARRED cell is found where a description names one. -/
theorem readBarred_nil_iff (ds : List Description) (s : State) :
    (readBarred ds (s, [])).1 = true
      ↔ ∃ d ∈ ds, ∃ c : CargoClass, d.nextClass = some c ∧ s.cell d.lastClass c = .barred := by
  simp [readBarred_nil, Option.any_eq_true]

theorem readBarred_nil_state (ds : List Description) (s : State) : (readBarred ds (s, [])).2 = s := by
  rw [readBarred_nil]

theorem freeTankers_eq_nil {s : State} (h : ∀ i : Tanker, s.tanker i ≠ none) : freeTankers s = [] := by
  simp [freeTankers, h]

/-- The FREE slots begin with the lowest of them. -/
theorem freeTankers_lowest {s : State} {slot : Tanker} (hfree : s.tanker slot = none)
    (hlow : ∀ i < slot, s.tanker i ≠ none) : ∃ rest, freeTankers s = slot :: rest := by
  have hmem : ∀ i, i ∈ freeTankers s ↔ s.tanker i = none := by simp [freeTankers]
  have hsorted : (freeTankers s).Pairwise (· < ·) := (List.pairwise_lt_finRange 16).filter _
  cases hl : freeTankers s with
  | nil => simpa [hl] using (hmem slot).mpr hfree
  | cons i rest =>
    rw [hl] at hsorted hmem
    have hi : s.tanker i = none := (hmem i).mp List.mem_cons_self
    rcases List.mem_cons.mp ((hmem slot).mpr hfree) with h | h
    · exact ⟨rest, by rw [h]⟩
    · exact absurd hi (hlow i (List.rel_of_pairwise_cons hsorted h))

theorem freeComps_length (s : State) :
    (freeComps s).length = (List.finRange 96).countP fun i => decide ((s.comp i).state = .free) :=
  List.countP_eq_length_filter.symm

theorem freeComps_nodup (s : State) : (freeComps s).Nodup := (List.nodup_finRange 96).filter _

/-! ## The records that BOOK makes (R5) -/

theorem bookRecords_fields (slot : Tanker) (k : Nat) (is : List Comp) (ds : List Description) (s : State) :
    bookRecords slot k is ds s = { s with comps := (bookRecords slot k is ds s).comps } := by
  induction is generalizing k ds s with
  | nil => rfl
  | cons i is ih =>
    cases ds with
    | nil => rfl
    | cons d ds => exact ih (k + 1) ds (s.setComp i (bookedRecord slot k d))

/-- A record that is not assigned stays as it was. -/
theorem comp_bookRecords_of_notMem (slot : Tanker) (k : Nat) (is : List Comp) (ds : List Description) (s : State) {i : Comp}
    (h : i ∉ is) : (bookRecords slot k is ds s).comp i = s.comp i := by
  induction is generalizing k ds s with
  | nil => rfl
  | cons j is ih =>
    obtain ⟨hne, hmem⟩ := not_or.mp (mt List.mem_cons.mpr h)
    cases ds with
    | nil => rfl
    | cons d ds => exact (ih (k + 1) ds _ hmem).trans (State.comp_setComp_ne s _ hne)

/-- The records are made of the descriptions in position order. -/
theorem comp_bookRecords_getElem (slot : Tanker) (k : Nat) {is : List Comp} {ds : List Description} (s : State) {j : Nat}
    {i : Comp} {d : Description} (hn : is.Nodup) (hi : is[j]? = some i) (hd : ds[j]? = some d) :
    (bookRecords slot k is ds s).comp i = bookedRecord slot (k + j) d := by
  induction is generalizing k ds s j with
  | nil => exact nomatch hi
  | cons i' is ih =>
    obtain ⟨hfst, hrest⟩ := List.nodup_cons.mp hn
    cases ds with
    | nil => exact nomatch hd
    | cons d' ds =>
      cases j with
      | zero =>
        obtain rfl := Option.some.inj hi
        obtain rfl := Option.some.inj hd
        exact (comp_bookRecords_of_notMem slot (k + 1) is ds _ hfst).trans (State.comp_setComp_self ..)
      | succ j =>
        have hk : k + 1 + j = k + (j + 1) := by omega
        exact hk ▸ ih (k + 1) (s.setComp i' (bookedRecord slot k d')) hrest hi hd

/-! ## The owner of BOOK, check by check (R4, R5, R38) -/

theorem ownBook_notOpen (x : ReadingRequest) {s : State} (h : s.yardOpen = false) : ownBook x s = refuse .notOpen s := by
  simp [ownBook, whenOpen, h]

theorem ownBook_badArg {x : ReadingRequest} {s : State} (hopen : s.yardOpen = true) (ha : bookArgs? x.request.payload = none) :
    ownBook x s = refuse .badArg s := by
  simp [ownBook, whenOpen, hopen, ha]

section Arguments

variable {r : Request} {s : State} {fleet : Nat} {ds : List Description}

theorem ownBook_inUse (between : List (List Between)) (hopen : s.yardOpen = true)
    (ha : bookArgs? r.payload = some (fleet, ds)) (hu : fleetInUse s fleet = true) :
    ownBook ⟨r, between⟩ s = refuse .inUse s := by
  simp [ownBook, whenOpen, hopen, ha, hu]

theorem ownBook_barred (hopen : s.yardOpen = true) (ha : bookArgs? r.payload = some (fleet, ds))
    (hu : fleetInUse s fleet = false) (hb : (readBarred ds (s, [])).1 = true) :
    ownBook ⟨r, []⟩ s = refuse .barred s := by
  simp [ownBook, whenOpen, hopen, ha, hu, hb, readBarred_nil_state]

/-- Past every check but the last, a BOOK comes to the FREE slots and records (R4). -/
theorem ownBook_eq_bookTanker (hopen : s.yardOpen = true) (ha : bookArgs? r.payload = some (fleet, ds))
    (hu : fleetInUse s fleet = false) (hb : ¬(readBarred ds (s, [])).1 = true) :
    ownBook ⟨r, []⟩ s = bookTanker fleet ds s := by
  simp [ownBook, whenOpen, hopen, ha, hu, hb, readBarred_nil_state]

theorem bookTanker_full (h : freeTankers s = [] ∨ (freeComps s).length < ds.length) :
    bookTanker fleet ds s = refuse .tableFull s := by
  unfold bookTanker
  split
  · rfl
  · next slot rest hl => exact if_pos (h.resolve_left (by simp [hl]))

theorem bookTanker_accepted {slot : Tanker} {rest : List Tanker} (hslot : freeTankers s = slot :: rest)
    (hroom : ds.length ≤ (freeComps s).length) :
    bookTanker fleet ds s
      = accept (byte (number slot) :: byte ds.length :: ((freeComps s).take ds.length).map fun i => byte (number i))
          ((bookRecords slot 1 ((freeComps s).take ds.length) ds s).setTanker slot
            (some { fleet := fleet, compartments := (freeComps s).take ds.length, arrival := s.clock.minute, bay := none })) := by
  unfold bookTanker
  rw [hslot]
  exact if_neg (Nat.not_lt.mpr hroom)

end Arguments

/-! ## BOOK as a command -/

theorem exec_book_refused {s : State} {r : Request} {between : List (List Between)} {x : ResultCode} (hasked : Asked s .book r)
    (ho : ownBook ⟨r, between⟩ (s.taking .book r) = refuse x (s.taking .book r)) :
    exec (.book ⟨r, between⟩) s = .next (s.answered .book r x []) :=
  takeRequest_refused hasked.1 hasked.2 ho

/-- An owner that changes the compartment table and the tanker register alone leaves them beside the port's answer. -/
theorem answering_taking_tables (s : State) (k : RequestKind) (r : Request) (x : ResultCode) (data : List Byte)
    (comps : Vector CompartmentRecord 96) (tankers : Vector TankerEntry 16) :
    ({ s.taking k r with comps := comps, tankers := tankers }).answering k r ⟨x, data⟩
      = { s.answered k r x data with comps := comps, tankers := tankers } := by
  rw [← answering_taking]
  rfl

/-- A BOOK that passes the checks, with room for it, writes its records and its tanker entry and answers with the slot and the indices
(R5). -/
theorem exec_book_accepted {r : Request} {s : State} {fleet : Nat} {ds : List Description} {slot : Tanker} {rest : List Tanker}
    (hasked : Asked s .book r) (ho : ownBook ⟨r, []⟩ (s.taking .book r) = bookTanker fleet ds (s.taking .book r))
    (hslot : freeTankers s = slot :: rest) (hroom : ds.length ≤ (freeComps s).length) :
    exec (.book ⟨r, []⟩) s
      = .next
          { s.answered .book r .ok
              (byte (number slot) :: byte ds.length :: ((freeComps s).take ds.length).map fun i => byte (number i)) with
            comps := (bookRecords slot 1 ((freeComps s).take ds.length) ds (s.taking .book r)).comps
            tankers :=
              put s.tankers slot
                (some { fleet := fleet, compartments := (freeComps s).take ds.length, arrival := s.clock.minute, bay := none }) } := by
  have ha := ho.trans (bookTanker_accepted (s := s.taking .book r) hslot hroom)
  rw [bookRecords_fields] at ha
  refine (takeRequest_permitted hasked.1 hasked.2 _).trans ?_
  rw [ha]
  exact congrArg _ (answering_taking_tables s .book r .ok _ _ _)

/-- Settles O24: the refusals are the owner's checks one after another, and an accepted BOOK is `exec_book_accepted` with the records read
one by one. -/
theorem book : Obligations.Book := by
  refine ⟨fun r between s hasked => ⟨fun hclosed => ?_, fun hopen hbad => ?_, ?_⟩, ?_⟩
  · exact exec_book_refused hasked (ownBook_notOpen _ hclosed)
  · exact exec_book_refused hasked (ownBook_badArg hopen (bookArgs?_eq_none hbad))
  · intro fleet ds hopen hrange hp
    have ha : bookArgs? r.payload = some (fleet, ds) := bookArgs?_eq_some.mpr ⟨hrange, hp⟩
    refine ⟨fun hu => ?_, fun hu hb => ?_, fun hu hb hfull => ?_⟩
    · exact exec_book_refused hasked (ownBook_inUse between hopen ha ((fleetInUse_iff _ fleet).mpr hu))
    · exact exec_book_refused hasked
        (ownBook_barred hopen ha (fleetInUse_eq_false hu) ((readBarred_nil_iff ds _).mpr hb))
    · have hnoRoom : freeTankers s = [] ∨ (freeComps s).length < ds.length :=
        hfull.imp freeTankers_eq_nil (freeComps_length s).trans_lt
      have ho := ownBook_eq_bookTanker (s := s.taking .book r) hopen ha (fleetInUse_eq_false hu)
        (mt (readBarred_nil_iff ds _).mp hb)
      exact exec_book_refused hasked (ho.trans (bookTanker_full hnoRoom))
  · intro r s fleet ds slot hasked hopen hrange hp hfleet hcells hfree hlow hroom taken
    have ha : bookArgs? r.payload = some (fleet, ds) := bookArgs?_eq_some.mpr ⟨hrange, hp⟩
    have ho := ownBook_eq_bookTanker (s := s.taking .book r) hopen ha
      (fleetInUse_eq_false fun ⟨i, t, hi, ht⟩ => hfleet i t hi ht)
      (mt (readBarred_nil_iff ds _).mp fun ⟨d, hd, c, hc, hcell⟩ => hcells d hd c hc hcell)
    obtain ⟨rest, hslot⟩ := freeTankers_lowest hfree hlow
    have hlen : ds.length ≤ (freeComps s).length := hroom.trans_eq (freeComps_length s).symm
    have hnodup : taken.Nodup := (freeComps_nodup s).sublist (List.take_sublist ..)
    refine ⟨_, exec_book_accepted hasked ho hslot hlen, rfl, List.length_take_of_le hlen, ?_, ?_⟩
    · intro k i d hi hd
      rw [Nat.add_comm k 1]
      exact comp_bookRecords_getElem slot 1 (s.taking .book r) hnodup hi hd
    · intro i hi
      exact comp_bookRecords_of_notMem slot 1 taken ds (s.taking .book r) hi

end Sys2Proof.Machine
end

section
/-! COMMIT_RECIPE and ERASE_RECIPE (R51 to R53): what the checks look at, each owner check by check, and the slot that an accepted
request replaces. -/

namespace Sys2Proof.Machine

open Sys2Proof (Byte Comp Chan RecipeSlot CargoClass)

/-! ## Numbers that name objects (00_scope "Numbering of yard objects") -/

theorem index?_of_names {k : Nat} {n : Byte} {i : Fin k} (h : Names n i) : index? k n.toNat = some i := by
  have hpos : 0 < n.toNat ∧ n.toNat ≤ k := by omega
  rw [index?, dif_pos hpos]
  exact congrArg some (Fin.ext (by simp [h]))

theorem index?_of_namesNone {k : Nat} {n : Byte} (h : NamesNone k n) : index? k n.toNat = none := by
  rw [index?, dif_neg (by omega)]

/-! ## Lists read whole -/

theorem readAll_cons {α β : Type} (f : α → Option β) (x : α) (xs : List α) :
    readAll f (x :: xs) = (f x).bind fun y => (readAll f xs).map fun ys => y :: ys := by
  rw [readAll]
  cases f x <;> cases readAll f xs <;> rfl

theorem readAll_eq_none_iff {α β : Type} (f : α → Option β) (l : List α) : readAll f l = none ↔ ∃ x ∈ l, f x = none := by
  induction l with
  | nil => simp [readAll]
  | cons x xs ih =>
    rw [readAll_cons]
    cases hx : f x with
    | none => simp [hx]
    | some y => simp [hx, ih]

theorem map_some_of_readAll {α β : Type} {f : α → Option β} {l : List α} {ys : List β} (h : readAll f l = some ys) :
    l.map f = ys.map some := by
  induction l generalizing ys with
  | nil =>
    obtain rfl := Option.some.inj h
    rfl
  | cons x xs ih =>
    rw [readAll_cons] at h
    obtain ⟨y, hx, h⟩ := Option.bind_eq_some_iff.mp h
    obtain ⟨zs, hxs, rfl⟩ := Option.map_eq_some_iff.mp h
    rw [List.map_cons, List.map_cons, hx, ih hxs]

/-! ## The steps of the staging buffer (R45, R52) -/

theorem Staging.mem_used_iff (x : Staging) (p : Option RecipeStep) :
    p ∈ x.used ↔ ∃ j : Fin 12, j.val < x.stepCount ∧ x.positions[j] = p := by
  rw [Staging.used, List.mem_take_iff_getElem]
  constructor
  · rintro ⟨j, hj, rfl⟩
    obtain ⟨hcount, hsize⟩ := Nat.lt_min.mp hj
    exact ⟨⟨j, by simpa using hsize⟩, hcount, by simp⟩
  · rintro ⟨j, hj, rfl⟩
    exact ⟨j.val, by simp [hj], by simp⟩

/-- The positions up to the step count are read whole unless one of them is unwritten, a gap (R45). -/
theorem Staging.readAll_used_eq_none_iff (x : Staging) :
    readAll id x.used = none ↔ ∃ j : Fin 12, j.val < x.stepCount ∧ x.positions[j] = none := by
  simp only [readAll_eq_none_iff, id_eq, exists_eq_right, mem_used_iff]

theorem Staging.used_eq_map_some {x : Staging} {steps : List RecipeStep} (h : readAll id x.used = some steps) :
    x.used = steps.map some := by
  rw [← map_some_of_readAll h, List.map_id]

/-- What is read is as long as the step count and gives each position's step in order (R52). -/
theorem Staging.steps_of_readAll_used {x : Staging} {steps : List RecipeStep} (hcount : x.stepCount ≤ 12)
    (h : readAll id x.used = some steps) :
    steps.length = x.stepCount ∧ ∀ j : Fin 12, j.val < x.stepCount → x.positions[j] = steps[j.val]? := by
  have hused := used_eq_map_some h
  have hlen : steps.length = x.stepCount := by
    simpa [used, hcount] using (congrArg List.length hused).symm
  refine ⟨hlen, fun j hj => ?_⟩
  have hget : x.used[j.val]? = (steps.map some)[j.val]? := by rw [hused]
  simpa [used, hj, hlen] using hget

/-! ## Slots in use (R51) -/

theorem usedByRecords_iff (s : State) (i : RecipeSlot) :
    usedByRecords s i = true
      ↔ ∃ k : Comp, ∃ p : Plan, ((s.comp k).state = .queued ∨ (s.comp k).state = .washing)
          ∧ (s.comp k).plan = some p ∧ p.slot = i := by
  simp [usedByRecords, Option.any_eq_true]

theorem usedByRehearsal_iff (s : State) (i : RecipeSlot) :
    usedByRehearsal s i = true ↔ ∃ c : Chan, (s.chan c).rehearsal = some i := by
  simp [usedByRehearsal]

theorem namedByMatrix_iff (s : State) (i : RecipeSlot) :
    namedByMatrix s i = true ↔ ∃ a b : CargoClass, s.cell a b = .slot i := by
  simp [namedByMatrix]

/-! ## The owner of COMMIT_RECIPE, check by check (R52) -/

section Owners

variable {r : Request} {n : Byte} {i : RecipeSlot}

theorem ownCommitRecipe_namesNone (s : State) (hp : r.payload = [n]) (hn : NamesNone 15 n) :
    ownCommitRecipe r s = refuse .badArg s := by
  simp [ownCommitRecipe, hp, index?_of_namesNone hn]

/-- A buffer with no steps or with a gap is refused, whichever of the two is found first. -/
theorem ownCommitRecipe_gap {s : State} (hp : r.payload = [n]) (hi : Names n i)
    (hgap : s.staging.stepCount = 0 ∨ readAll id s.staging.used = none) : ownCommitRecipe r s = refuse .badArg s := by
  rcases hgap with hcount | hnone
  · cases hread : readAll id s.staging.used <;> simp [ownCommitRecipe, hp, index?_of_names hi, hread, hcount]
  · simp [ownCommitRecipe, hp, index?_of_names hi, hnone]

/-- Past the checks of the buffer its steps are read, and a COMMIT_RECIPE comes to the uses of the slot. -/
theorem ownCommitRecipe_noGap {s : State} (hp : r.payload = [n]) (hi : Names n i)
    (hgap : ¬(s.staging.stepCount = 0 ∨ readAll id s.staging.used = none)) :
    ∃ steps, readAll id s.staging.used = some steps
      ∧ ownCommitRecipe r s
          = if usedByRecords s i || usedByRehearsal s i then refuse .inUse s
            else accept [] { s with recipes := put s.recipes i (some ⟨s.staging.rounds, steps⟩) } := by
  obtain ⟨hcount, hnone⟩ := not_or.mp hgap
  obtain ⟨steps, hread⟩ := Option.ne_none_iff_exists'.mp hnone
  exact ⟨steps, hread, by simp [ownCommitRecipe, hp, index?_of_names hi, hread, hcount]⟩

/-! ## The owner of ERASE_RECIPE, check by check (R53) -/

theorem ownEraseRecipe_namesNone (s : State) (hp : r.payload = [n]) (hn : NamesNone 15 n) :
    ownEraseRecipe r s = refuse .badArg s := by
  simp [ownEraseRecipe, hp, index?_of_namesNone hn]

theorem ownEraseRecipe_empty {s : State} (hp : r.payload = [n]) (hi : Names n i) (hempty : s.recipe i = none) :
    ownEraseRecipe r s = refuse .noSuch s := by
  simp [ownEraseRecipe, hp, index?_of_names hi, hempty]

/-- An ERASE_RECIPE of a DEFINED slot comes to the uses of the slot. -/
theorem ownEraseRecipe_defined {s : State} (hp : r.payload = [n]) (hi : Names n i) (hdef : s.recipe i ≠ none) :
    ownEraseRecipe r s
      = if usedByRecords s i || usedByRehearsal s i || namedByMatrix s i then refuse .inUse s
        else accept [] { s with recipes := put s.recipes i none } := by
  simp [ownEraseRecipe, hp, index?_of_names hi, hdef]

end Owners

/-! ## The two requests as commands -/

/-- An accepted request whose owner changes the recipe slots alone leaves them beside the port's answer. -/
theorem takeRequest_recipes {s : State} {r : Request} {k : RequestKind} {owner : State → Taken}
    {recipes : Vector (Option Recipe) 15} (hasked : Asked s k r)
    (ho : owner (s.taking k r) = accept [] { s.taking k r with recipes := recipes }) :
    takeRequest k r owner s = .next { s.answered k r .ok [] with recipes := recipes } := by
  rw [takeRequest_permitted hasked.1 hasked.2, ho, ← answering_taking]
  rfl

/-- Settles O19: each refusal is one of the owner's checks, and an accepted request replaces the slot alone. -/
theorem recipeSlots : Obligations.RecipeSlots := by
  refine ⟨fun r s n hasked hp => ⟨fun hn => ?_, ?_⟩, fun r s n hasked hp => ⟨fun hn => ?_, ?_⟩⟩
  · exact takeRequest_refused hasked.1 hasked.2 (ownCommitRecipe_namesNone _ hp hn)
  · intro i hi hcount gap inUse
    have hgap : gap ↔ s.staging.stepCount = 0 ∨ readAll id s.staging.used = none :=
      or_congr_right s.staging.readAll_used_eq_none_iff.symm
    have huse : inUse ↔ (usedByRecords s i || usedByRehearsal s i) = true := by
      rw [Bool.or_eq_true, usedByRecords_iff, usedByRehearsal_iff]
    refine ⟨fun hg => ?_, fun hg hu => ?_, fun hg hu => ?_⟩
    · exact takeRequest_refused hasked.1 hasked.2 (ownCommitRecipe_gap hp hi (hgap.mp hg))
    · obtain ⟨steps, -, ho⟩ := ownCommitRecipe_noGap (s := s.taking .commitRecipe r) hp hi (mt hgap.mpr hg)
      exact takeRequest_refused hasked.1 hasked.2 (ho.trans (if_pos (huse.mp hu)))
    · obtain ⟨steps, hread, ho⟩ := ownCommitRecipe_noGap (s := s.taking .commitRecipe r) hp hi (mt hgap.mpr hg)
      obtain ⟨hlen, hget⟩ := Staging.steps_of_readAll_used hcount hread
      exact ⟨steps, hlen, hget, takeRequest_recipes hasked (ho.trans (if_neg (mt huse.mpr hu)))⟩
  · exact takeRequest_refused hasked.1 hasked.2 (ownEraseRecipe_namesNone _ hp hn)
  · intro i hi inUse
    have huse : inUse ↔ (usedByRecords s i || usedByRehearsal s i || namedByMatrix s i) = true := by
      rw [Bool.or_eq_true, Bool.or_eq_true, usedByRecords_iff, usedByRehearsal_iff, namedByMatrix_iff, or_assoc]
    have ho (hdef : s.recipe i ≠ none) := ownEraseRecipe_defined (s := s.taking .eraseRecipe r) hp hi hdef
    refine ⟨fun hempty => ?_, fun hdef hu => ?_, fun hdef hu => ?_⟩
    · exact takeRequest_refused hasked.1 hasked.2 (ownEraseRecipe_empty hp hi hempty)
    · exact takeRequest_refused hasked.1 hasked.2 ((ho hdef).trans (if_pos (huse.mp hu)))
    · exact takeRequest_recipes hasked ((ho hdef).trans (if_neg (mt huse.mpr hu)))

end Sys2Proof.Machine
end

section
/-! The catalogue of requests (R180): a kind code is a place in the list of all requests, a role's column is the part of that list which
the role permits, and the port's check of its role (R179) is membership in its column. -/

namespace Sys2Proof.Machine

open Sys2Proof (Port)

/-- Kind codes count the catalogue from 01h. -/
theorem RequestKind.all_getElem?_code (k : RequestKind) : RequestKind.all[k.code - 1]? = some k := by
  cases k <;> rfl

theorem RequestKind.mem_all (k : RequestKind) : k ∈ RequestKind.all :=
  List.mem_of_getElem? k.all_getElem?_code

theorem RequestKind.all_map_code : RequestKind.all.map RequestKind.code = (List.range 54).map (· + 1) := by
  decide

/-- The columns of the catalogue, written out role by role, are what the access of each request admits. -/
theorem PortRole.column_eq_filter (x : PortRole) :
    x.column = RequestKind.all.filter fun k => k.access.admits x := by
  cases x <;> rfl

theorem RequestKind.permitted_iff_mem_column (k : RequestKind) (p : Port) :
    k.permitted p = true ↔ k ∈ (portRole p).column := by
  rw [PortRole.column_eq_filter, List.mem_filter, and_iff_right k.mem_all, RequestKind.permitted]

/-- Settles O9: membership in the column decides between the owner's answer and NOT_PERMITTED. -/
theorem requestCatalogue : Obligations.RequestCatalogue := by
  refine ⟨RequestKind.all_map_code, RequestKind.mem_all, RequestKind.permitted_iff_mem_column,
    fun k r s hlistening => ⟨fun hmem => ?_, fun hmem => ?_⟩⟩
  · have hpermitted : k.permitted r.port = true := (k.permitted_iff_mem_column r.port).mpr hmem
    exact (request_exec k r s).trans (takeRequest_permitted hlistening hpermitted _)
  · have hrefused : k.permitted r.port = false :=
      Bool.eq_false_iff.mpr (mt (k.permitted_iff_mem_column r.port).mp hmem)
    exact (request_exec k r s).trans (takeRequest_notPermitted hlistening hrefused _)

end Sys2Proof.Machine
end

section
/-! What the yard's work keeps of its laws: `Lawful s t` says that from `s` to `t` no compartment list comes to name a record twice, the
priority order stays complete, every record stays as its state gives it, and the lanes and the probe lines stay with the records that they serve. One lemma
says it for each shared operation; together with `Kept` it is what the laws of O55 to O60 rest on. -/

namespace Sys2Proof.Machine

open Sys2Proof (Byte Comp Tanker Bay Chan RecipeSlot CargoClass Line Lane Port)

/-! ## The priority order (R111) -/

namespace Plant

/-- Moving some channels, each named once, to the lowest places leaves an order of all eight (R111). -/
theorem perm_moveToEnd {l heads : List Chan} (h : l.Perm startOrder) (hn : heads.Nodup) :
    ((l.filter fun x => decide (x ∉ heads)) ++ heads).Perm startOrder := by
  have all : ∀ x, x ∈ startOrder := by decide
  have once : startOrder.Nodup := by decide
  rw [List.perm_ext_iff_of_nodup _ once]
  · intro x
    by_cases hx : x ∈ heads <;> simp [hx, all, h.mem_iff]
  · refine List.nodup_append.2 ⟨(h.nodup_iff.2 once).filter _, hn, ?_⟩
    rintro x hx y hy rfl
    simp [hy] at hx

theorem rotate_priority (p : Plant) (c : Chan) (pair : Bool) (h : p.priority.Perm startOrder) :
    (p.rotate c pair).priority.Perm startOrder := by
  unfold rotate
  split
  · exact h
  · split
    · exact perm_moveToEnd h (by simp [headA, headB, Fin.ext_iff])
    · have single := perm_moveToEnd h (List.nodup_singleton c)
      simpa using single

theorem grant_priority (p : Plant) (c : Chan) (h : p.priority.Perm startOrder) : (p.grant c).priority.Perm startOrder := by
  unfold grant
  split
  · exact h
  · exact rotate_priority _ _ _ h

theorem grants_priority (l : List Chan) (p : Plant) (h : p.priority.Perm startOrder) :
    (l.foldl grant p).priority.Perm startOrder := by
  induction l generalizing p with
  | nil => exact h
  | cons c l ih => exact ih _ (grant_priority p c h)

theorem countSkip_priority (limit : Nat) (order granted : List Chan) (p : Plant) (c : Chan) :
    (countSkip limit order granted p c).priority = p.priority := by
  unfold countSkip; split <;> [rfl; (split <;> rfl)]

theorem countSkips_priority (limit : Nat) (order granted l : List Chan) (p : Plant) :
    (l.foldl (countSkip limit order granted) p).priority = p.priority := by
  induction l generalizing p with
  | nil => rfl
  | cons c l ih => rw [List.foldl_cons, ih, countSkip_priority]

theorem chooseAnchor_priority (limit : Nat) (order : List Chan) (p : Plant) :
    (p.chooseAnchor limit order).priority = p.priority := by
  unfold chooseAnchor; split
  · rfl
  · split
    · rfl
    · split <;> rfl

/-- A pass moves channels within the priority order alone: skips and the anchor leave it (R111, R114). -/
theorem pass_priority_eq (limit : Nat) (p : Plant) :
    (p.pass limit).1.priority = (p.passGrants.foldl grant p).priority := by
  simp only [pass, chooseAnchor_priority, countSkips_priority]

theorem pass_priority (limit : Nat) (p : Plant) (h : p.priority.Perm startOrder) :
    (p.pass limit).1.priority.Perm startOrder := by
  rw [pass_priority_eq]
  exact grants_priority _ _ h

end Plant

/-! ## Records and lanes that change within the laws -/

/-- A record that changes as R1 allows, and goes neither into nor out of FILLING and INSPECTING. -/
structure RecordMove (r x : CompartmentRecord) : Prop where
  sound : r.sound = true → x.sound = true
  filling : x.state = .filling ↔ r.state = .filling
  inspecting : x.state = .inspecting ↔ r.state = .inspecting

/-- A lane that goes on serving what it serves. -/
structure LaneMove (y x : FillLane) : Prop where
  context : x.context = y.context
  idle : x.state = .idle ↔ y.state = .idle
  cause : (y.state = .settling → y.cause.isSome = true) → x.state = .settling → x.cause.isSome = true

/-- A probe line that stays within its session, or out of one, with its binding. -/
structure LineMove (y x : ProbeLine) : Prop where
  session : x.state.inSession = y.state.inSession
  bound : x.bound = y.bound

/-- What the yard's work keeps of its laws. -/
structure Lawful (s t : State) : Prop where
  lists : ListsDistinct s → ListsDistinct t
  priority : PriorityComplete s → PriorityComplete t
  records : RecordsSound s → RecordsSound t
  lanes : LanesServe s → LanesServe t
  lines : LinesServe s → LinesServe t
  twoHead : ∀ b, (t.bay b).twoHead = (s.bay b).twoHead

theorem ListsDistinct.congr {s t : State} (ht : t.tankers = s.tankers) (h : ListsDistinct s) : ListsDistinct t := by
  have tanker : ∀ i, t.tanker i = s.tanker i := fun i => by simp only [State.tanker, ht]
  simpa only [ListsDistinct, tanker] using h

/-- The laws of the lanes speak of the lanes and of the states of the records alone. -/
theorem LanesServe.congr {s t : State} (hl : t.lanes = s.lanes) (hc : ∀ i, (t.comp i).state = .filling ↔ (s.comp i).state = .filling)
    (h : LanesServe s) : LanesServe t := by
  have lane : ∀ l, t.lane l = s.lane l := fun l => by simp only [State.lane, hl]
  simpa only [LanesServe, lane, hc] using h

/-- The laws of the probe lines speak of the lines, the contexts and the states of the records alone. -/
theorem LinesServe.congr {s t : State} (hl : t.lines = s.lines) (hx : t.inspections = s.inspections)
    (hc : ∀ i, (t.comp i).state = .inspecting ↔ (s.comp i).state = .inspecting) (h : LinesServe s) : LinesServe t := by
  have line : ∀ l, t.line l = s.line l := fun l => by simp only [State.line, hl]
  have context : ∀ l, t.inspection l = s.inspection l := fun l => by simp only [State.inspection, hx]
  simpa only [LinesServe, line, context, hc] using h

namespace Lawful

theorem refl (s : State) : Lawful s s := ⟨id, id, id, id, id, fun _ => rfl⟩

theorem trans {s t u : State} (h : Lawful s t) (k : Lawful t u) : Lawful s u :=
  ⟨k.lists ∘ h.lists, k.priority ∘ h.priority, k.records ∘ h.records, k.lanes ∘ h.lanes, k.lines ∘ h.lines,
    fun b => (k.twoHead b).trans (h.twoHead b)⟩

/-- What leaves the records, lanes, lines, contexts, tanker register priority order and bays as they are. -/
theorem of_same {s t : State} (ht : t.tankers = s.tankers) (hp : t.plant.priority = s.plant.priority)
    (hc : t.comps = s.comps) (hl : t.lanes = s.lanes) (hn : t.lines = s.lines) (hi : t.inspections = s.inspections)
    (hb : t.bays = s.bays) : Lawful s t := by
  have comp : ∀ i, t.comp i = s.comp i := fun i => by simp only [State.comp, hc]
  refine ⟨.congr ht, fun h => ?_, fun h i => ?_, .congr hl fun i => ?_, .congr hn hi fun i => ?_,
    fun b => by simp only [State.bay, hb]⟩
  · rw [PriorityComplete, hp]; exact h
  · rw [comp]; exact h i
  · rw [comp]
  · rw [comp]

theorem foldl {α : Type} {s t : State} (f : State → α → State) (hf : ∀ u a, Lawful u (f u a)) (h : Lawful s t) (l : List α) :
    Lawful s (l.foldl f t) := by
  induction l generalizing t with
  | nil => exact h
  | cons a l ih => exact ih (h.trans (hf t a))

variable {s t : State}

/-! ## Updates -/

theorem setChan (h : Lawful s t) (c : Chan) (x : WashChannel) : Lawful s (t.setChan c x) :=
  h.trans (of_same rfl rfl rfl rfl rfl rfl rfl)

theorem modChan (h : Lawful s t) (c : Chan) (f : WashChannel → WashChannel) : Lawful s (t.modChan c f) := h.setChan c _

theorem setBay (h : Lawful s t) (b : Bay) {x : BayState} (hx : x.twoHead = (t.bay b).twoHead) : Lawful s (t.setBay b x) := by
  refine h.trans ⟨id, id, id, id, id, fun d => ?_⟩
  rw [State.bay_setBay]
  split <;> [(rename_i e; rw [e, hx]); rfl]

theorem modBay (h : Lawful s t) (b : Bay) (f : BayState → BayState)
    (hf : ∀ y, (f y).twoHead = y.twoHead := by intro _; rfl) : Lawful s (t.modBay b f) := h.setBay b (hf _)

theorem setPort (h : Lawful s t) (p : Port) (x : StationPort) : Lawful s (t.setPort p x) :=
  h.trans (of_same rfl rfl rfl rfl rfl rfl rfl)

theorem raiseNotice (h : Lawful s t) (p : Port) (kind subject : Nat) : Lawful s (Machine.raiseNotice p kind subject t) :=
  h.setPort p _

theorem setCertCounter (h : Lawful s t) (n : Nat) : Lawful s { t with certCounter := n } :=
  h.trans (of_same rfl rfl rfl rfl rfl rfl rfl)

theorem setPlant (h : Lawful s t) {p : Plant} (hp : t.plant.priority.Perm Plant.startOrder → p.priority.Perm Plant.startOrder) :
    Lawful s (t.setPlant p) :=
  h.trans ⟨id, hp, id, id, id, fun _ => rfl⟩

theorem setComp (h : Lawful s t) {i : Comp} {x : CompartmentRecord} (hx : RecordMove (t.comp i) x) :
    Lawful s (t.setComp i x) := by
  refine h.trans ⟨id, id, fun hr j => ?_, .congr rfl fun j => ?_, .congr rfl rfl fun j => ?_, fun _ => rfl⟩ <;> rw [State.comp_setComp]
  · split <;> [exact hx.sound (hr i); exact hr j]
  · split <;> [(rename_i e; rw [e]; exact hx.filling); exact Iff.rfl]
  · split <;> [(rename_i e; rw [e]; exact hx.inspecting); exact Iff.rfl]

theorem modComp (h : Lawful s t) {i : Comp} {f : CompartmentRecord → CompartmentRecord}
    (hx : RecordMove (t.comp i) (f (t.comp i))) : Lawful s (t.modComp i f) := h.setComp hx

theorem setLane (h : Lawful s t) {l : Lane} {x : FillLane} (hx : LaneMove (t.lane l) x) : Lawful s (t.setLane l x) := by
  refine h.trans ⟨id, id, id, ?_, id, fun _ => rfl⟩
  have context : ∀ m, ((t.setLane l x).lane m).context = (t.lane m).context := fun m => by
    rw [State.lane_setLane]; split <;> [(rename_i e; rw [e, hx.context]); rfl]
  rintro ⟨idle, cause, filling, served, once⟩
  refine ⟨fun m => ?_, fun m => ?_, ?_, ?_, ?_⟩
  · rw [context, ← idle m, State.lane_setLane]
    split <;> [(rename_i e; rw [e]; exact hx.idle); exact Iff.rfl]
  · rw [State.lane_setLane]
    split <;> [(rename_i e; exact hx.cause (cause l)); exact cause m]
  · simpa only [context, State.comp_setLane] using filling
  · simpa only [context, State.comp_setLane] using served
  · simpa only [context] using once

theorem modLane (h : Lawful s t) {l : Lane} {f : FillLane → FillLane} (hx : LaneMove (t.lane l) (f (t.lane l))) :
    Lawful s (t.modLane l f) := h.setLane hx

theorem setLine (h : Lawful s t) {l : Line} {x : ProbeLine} (hx : LineMove (t.line l) x) : Lawful s (t.setLine l x) := by
  refine h.trans ⟨id, id, id, id, ?_, fun _ => rfl⟩
  have session : ∀ m, ((t.setLine l x).line m).state.inSession = (t.line m).state.inSession := fun m => by
    rw [State.line_setLine]; split <;> [(rename_i e; rw [e, hx.session]); rfl]
  have bound : ∀ m, ((t.setLine l x).line m).bound = (t.line m).bound := fun m => by
    rw [State.line_setLine]; split <;> [(rename_i e; rw [e, hx.bound]); rfl]
  simp only [LinesServe, session, bound]
  exact id

theorem modLine (h : Lawful s t) {l : Line} {f : ProbeLine → ProbeLine} (hx : LineMove (t.line l) (f (t.line l))) :
    Lawful s (t.modLine l f) := h.setLine hx

/-- A tanker entry replaced by one whose list names no record twice. -/
theorem setTanker (h : Lawful s t) {i : Tanker} {x : TankerEntry}
    (hx : ListsDistinct t → ∀ d, x = some d → d.compartments.Nodup) : Lawful s (t.setTanker i x) := by
  refine h.trans ⟨fun hl j d hd => ?_, id, id, id, id, fun _ => rfl⟩
  rw [State.tanker_setTanker] at hd
  split at hd
  · exact hx hl d hd
  · exact hl j d hd

/-- A context replaced by one for the same compartment. -/
theorem setInspection (h : Lawful s t) {l : Line} {x : Option Inspection}
    (hx : (x.map fun y => y.comp) = (t.inspection l).map fun y => y.comp) : Lawful s (t.setInspection l x) := by
  refine h.trans ⟨id, id, id, id, ?_, fun _ => rfl⟩
  have comp : ∀ m, (((t.setInspection l x).inspection m).map fun y => y.comp) = (t.inspection m).map fun y => y.comp :=
    fun m => by rw [State.inspection_setInspection]; split <;> [(rename_i e; rw [e, hx]); rfl]
  simp only [LinesServe, comp]
  exact id

end Lawful

end Sys2Proof.Machine
end

section
/-! Each shared operation does what R1, R111, R120, R144 and R160 allow: the record moves one by one, the ends of inspections and of fills,
and then the operations of the compartment table, the channels, the bays, the probe lines and the lanes. -/

namespace Sys2Proof.Machine

open Sys2Proof (Byte Comp Tanker Bay Chan RecipeSlot CargoClass Line Lane Port)

/-! ## The moves of a record (R1, R6 to R18) -/

/-- A record that carries the fields of its state, spelled out (R1). -/
theorem CompartmentRecord.sound_iff {r : CompartmentRecord} (hf : r.state ≠ .free) :
    r.sound = true
      ↔ (r.state = .queued ∨ r.state = .washing → r.plan.isSome = true)
        ∧ (r.plan.isSome = true → r.state = .queued ∨ r.state = .washing ∨ r.state = .held)
        ∧ (r.binding.isSome = true ↔ r.state = .washing)
        ∧ (r.hold.isSome = true ↔ r.state = .held)
        ∧ (r.cert.isSome = true ↔ r.state.certified = true)
        ∧ (∀ c, r.cert = some c → r.nextClass = some c.clearedClass)
        ∧ (r.fill.isSome = true ↔ r.state = .filled)
        ∧ (r.nextClass.isSome = true ∨ r.state.classOptional = true)
        ∧ (∀ c, r.nextClass = some c → c ≠ 0)
        ∧ r.tries ≤ 3 ∧ (r.tries = 3 → r.state = .held ∨ r.state = .withdrawn) := by
  simp only [sound, Bool.and_eq_true, decide_eq_true_eq, Option.all_eq_true, hf, false_implies, true_and, and_assoc]

theorem CompartmentRecord.freed_sound : CompartmentRecord.freed.sound = true := by decide

namespace CompartmentRecord

variable {r : CompartmentRecord}

/-- A certificate for the next class makes a record CLEARED (R7, R10, R12, R156). -/
theorem sound_certified (h : r.state = .booked ∨ r.state = .inspectWait ∨ r.state = .inspecting)
    (hn : r.state = .booked → r.nextClass.isSome = true) {c : Certificate} (hc : c.clearedClass = r.nextClass.getD 0)
    (hs : r.sound = true) : sound { r with state := .cleared, cert := some c } = true := by
  rw [sound_iff (by rcases h with h | h | h <;> simp [h])] at hs
  rw [sound_iff (by simp)]
  have next : r.nextClass.isSome = true := by
    rcases h with h | h | h <;> simp_all [Lifecycle.classOptional]
  obtain ⟨x, hx⟩ := Option.isSome_iff_exists.1 next
  rcases h with h | h | h <;> simp_all [Lifecycle.certified, Lifecycle.classOptional]

/-- A hold clears the binding and the certificate (R15), and leaves a plan of the wash (R1). -/
theorem sound_held {n : Nat} (h : r.state = .washing ∨ r.state = .inspectWait ∨ r.state = .cleared ∨ r.state = .inspecting)
    (why : HoldReason) (hn : n ≤ 3) (hs : r.sound = true) :
    sound { r with state := .held, hold := some why, binding := none, cert := none, tries := n } = true := by
  rw [sound_iff (by rcases h with h | h | h | h <;> simp [h])] at hs
  rw [sound_iff (by simp)]
  rcases h with h | h | h | h <;> simp_all [Lifecycle.certified, Lifecycle.classOptional]

/-- An inspection that ends with no judgement leaves the record waiting, its tries below three (R12). -/
theorem sound_waiting {n : Nat} (h : r.state = .inspecting) (hn : n < 3) (hs : r.sound = true) :
    sound { r with state := .inspectWait, tries := n } = true := by
  rw [sound_iff (by simp [h])] at hs
  rw [sound_iff (by simp)]
  have := hn.ne
  simp_all [Lifecycle.certified, Lifecycle.classOptional, hn.le]

theorem tries_lt_three (h : r.state = .inspecting) (hs : r.sound = true) : r.tries < 3 := by
  rw [sound_iff (by simp [h])] at hs
  obtain ⟨-, -, -, -, -, -, -, -, -, hle, hlast⟩ := hs
  have : r.tries ≠ 3 := fun e => by simpa [h] using hlast e
  omega

theorem sound_readings (x : Readings) (h : r.state ≠ .free) (hs : r.sound = true) :
    sound { r with readings := some x } = true := by
  rw [sound_iff h] at hs
  rwa [sound_iff (by exact h)]

theorem sound_inspecting (h : r.state = .inspectWait) (hs : r.sound = true) :
    sound { r with state := .inspecting } = true := by
  rw [sound_iff (by simp [h])] at hs
  rw [sound_iff (by simp)]
  simp_all [Lifecycle.certified, Lifecycle.classOptional]

theorem sound_filling (h : r.state = .cleared) (hs : r.sound = true) : sound { r with state := .filling } = true := by
  rw [sound_iff (by simp [h])] at hs
  rw [sound_iff (by simp)]
  simp_all [Lifecycle.certified, Lifecycle.classOptional]

theorem sound_filled (h : r.state = .filling) (x : FillRecord) (hs : r.sound = true) :
    sound { r with state := .filled, fill := some x } = true := by
  rw [sound_iff (by simp [h])] at hs
  rw [sound_iff (by simp)]
  simp_all [Lifecycle.certified, Lifecycle.classOptional]

theorem sound_unfilled (h : r.state = .filling) (hs : r.sound = true) : sound { r with state := .cleared } = true := by
  rw [sound_iff (by simp [h])] at hs
  rw [sound_iff (by simp)]
  simp_all [Lifecycle.certified, Lifecycle.classOptional]

end CompartmentRecord

namespace RecordMove

variable {r : CompartmentRecord}

/-- A move between two states that are neither FREE, FILLING nor INSPECTING is a matter of the fields alone. -/
theorem of_fields {x : CompartmentRecord} (hr : r.state ≠ .free ∧ r.state ≠ .filling ∧ r.state ≠ .inspecting)
    (hx : x.state ≠ .free ∧ x.state ≠ .filling ∧ x.state ≠ .inspecting) (hs : r.sound = true → x.sound = true) :
    RecordMove r x :=
  ⟨hs, iff_of_false hx.2.1 hr.2.1, iff_of_false hx.2.2 hr.2.2⟩

theorem certified (h : r.state = .booked ∨ r.state = .inspectWait) (hn : r.state = .booked → r.nextClass.isSome = true)
    {c : Certificate} (hc : c.clearedClass = r.nextClass.getD 0) : RecordMove r { r with state := .cleared, cert := some c } :=
  of_fields (by rcases h with h | h <;> simp [h]) (by simp)
    (CompartmentRecord.sound_certified (by rcases h with h | h <;> simp [h]) hn hc)

theorem held (h : r.state = .washing ∨ r.state = .inspectWait ∨ r.state = .cleared) (why : HoldReason) :
    RecordMove r { r with state := .held, hold := some why, binding := none, cert := none } := by
  have other : r.state ≠ .free ∧ r.state ≠ .filling ∧ r.state ≠ .inspecting := by rcases h with h | h | h <;> simp [h]
  refine of_fields other (by simp) fun hs => ?_
  have tries : r.tries ≤ 3 := ((CompartmentRecord.sound_iff other.1).1 hs).2.2.2.2.2.2.2.2.2.1
  exact CompartmentRecord.sound_held (by rcases h with h | h | h <;> simp [h]) why tries hs

theorem queued (h : r.state = .booked) (hn : r.nextClass.isSome = true) (x : Plan) :
    RecordMove r { r with state := .queued, plan := some x } := by
  refine of_fields (by simp [h]) (by simp) fun hs => ?_
  rw [CompartmentRecord.sound_iff (by simp [h])] at hs
  rw [CompartmentRecord.sound_iff (by simp)]
  simp_all [Lifecycle.certified, Lifecycle.classOptional]

theorem waiting (h : r.state = .booked) (hn : r.nextClass.isSome = true) : RecordMove r { r with state := .inspectWait } := by
  refine of_fields (by simp [h]) (by simp) fun hs => ?_
  rw [CompartmentRecord.sound_iff (by simp [h])] at hs
  rw [CompartmentRecord.sound_iff (by simp)]
  simp_all [Lifecycle.certified, Lifecycle.classOptional]

/-- A BOOKED record with another next class, or with none (R6, R7). -/
theorem classed (h : r.state = .booked) {x : Option CargoClass} (hx : ∀ c, x = some c → c ≠ 0) :
    RecordMove r { r with nextClass := x } := by
  refine of_fields (by simp [h]) (by simp [h]) fun hs => ?_
  rw [CompartmentRecord.sound_iff (by simp [h])] at hs
  rw [CompartmentRecord.sound_iff (by simp [h])]
  simp_all [Lifecycle.certified, Lifecycle.classOptional]

theorem rounds (h : r.state = .washing) (f : Plan → Plan) : RecordMove r { r with plan := r.plan.map f } := by
  refine of_fields (by simp [h]) (by simp [h]) fun hs => ?_
  rw [CompartmentRecord.sound_iff (by simp [h])] at hs
  rw [CompartmentRecord.sound_iff (by simp [h])]
  simp_all [Lifecycle.certified, Lifecycle.classOptional]

theorem completed (h : r.state = .washing) :
    RecordMove r { r with state := .inspectWait, binding := none, plan := none } := by
  refine of_fields (by simp [h]) (by simp) fun hs => ?_
  rw [CompartmentRecord.sound_iff (by simp [h])] at hs
  rw [CompartmentRecord.sound_iff (by simp)]
  simp_all [Lifecycle.certified, Lifecycle.classOptional]

theorem returned (h : r.state = .washing) : RecordMove r { r with state := .queued, binding := none } := by
  refine of_fields (by simp [h]) (by simp) fun hs => ?_
  rw [CompartmentRecord.sound_iff (by simp [h])] at hs
  rw [CompartmentRecord.sound_iff (by simp)]
  simp_all [Lifecycle.certified, Lifecycle.classOptional]

theorem bound (h : r.state = .queued) (x : Binding) :
    RecordMove r { r with state := .washing, binding := some x, expedite := false } := by
  refine of_fields (by simp [h]) (by simp) fun hs => ?_
  rw [CompartmentRecord.sound_iff (by simp [h])] at hs
  rw [CompartmentRecord.sound_iff (by simp)]
  simp_all [Lifecycle.certified, Lifecycle.classOptional]

theorem unqueued (h : r.state = .queued) : RecordMove r { r with state := .booked, plan := none, expedite := false } := by
  refine of_fields (by simp [h]) (by simp) fun hs => ?_
  rw [CompartmentRecord.sound_iff (by simp [h])] at hs
  rw [CompartmentRecord.sound_iff (by simp)]
  simp_all [Lifecycle.certified, Lifecycle.classOptional]

theorem expedited (h : r.state = .queued) : RecordMove r { r with expedite := true } := by
  refine of_fields (by simp [h]) (by simp [h]) fun hs => ?_
  rw [CompartmentRecord.sound_iff (by simp [h])] at hs
  rwa [CompartmentRecord.sound_iff (by simp [h])]

theorem disposed (h : r.state = .held) {x : Lifecycle} (hx : x = .booked ∨ x = .inspectWait) :
    RecordMove r (Machine.disposed r x) := by
  unfold Machine.disposed
  refine of_fields (by simp [h]) (by rcases hx with rfl | rfl <;> simp) fun hs => ?_
  rw [CompartmentRecord.sound_iff (by simp [h])] at hs
  rw [CompartmentRecord.sound_iff (by rcases hx with rfl | rfl <;> simp)]
  rcases hx with rfl | rfl <;> simp_all [Lifecycle.certified, Lifecycle.classOptional]

theorem withdrawn (h : mayWithdraw r.state = true) :
    RecordMove r { r with state := .withdrawn, cert := none, hold := none, plan := none } := by
  have from' : r.state = .booked ∨ r.state = .inspectWait ∨ r.state = .cleared ∨ r.state = .held := by
    revert h; cases r.state <;> simp [mayWithdraw]
  refine of_fields (by rcases from' with h | h | h | h <;> simp [h]) (by simp) fun hs => ?_
  rw [CompartmentRecord.sound_iff (by rcases from' with h | h | h | h <;> simp [h])] at hs
  rw [CompartmentRecord.sound_iff (by simp)]
  rcases from' with h | h | h | h <;> simp_all [Lifecycle.certified, Lifecycle.classOptional]

end RecordMove

theorem washing_of_washingOn {r : CompartmentRecord} {c : Chan} (h : washingOn r c = true) : r.state = .washing := by
  rw [washingOn, Bool.and_eq_true] at h
  exact of_decide_eq_true h.1

/-! ## What a report changes (R7, R12, R15, R156) -/

/-- Of what the laws speak of, from `u` to `v` the record `i` alone may differ. -/
structure Touches (i : Comp) (u v : State) : Prop where
  tankers : v.tankers = u.tankers
  plant : v.plant = u.plant
  lanes : v.lanes = u.lanes
  lines : v.lines = u.lines
  inspections : v.inspections = u.inspections
  bays : v.bays = u.bays
  others : ∀ j, j ≠ i → v.comp j = u.comp j

namespace Touches

variable {i : Comp} {u v : State}

theorem refl (i : Comp) (u : State) : Touches i u u := ⟨rfl, rfl, rfl, rfl, rfl, rfl, fun _ _ => rfl⟩

theorem setComp (h : Touches i u v) (x : CompartmentRecord) : Touches i u (v.setComp i x) :=
  ⟨h.tankers, h.plant, h.lanes, h.lines, h.inspections, h.bays, fun j hj => (State.comp_setComp_ne v x hj).trans (h.others j hj)⟩

theorem issueCertificate (h : Touches i u v) : Touches i u (issueCertificate i v) :=
  ⟨h.tankers, h.plant, h.lanes, h.lines, h.inspections, h.bays, fun j hj => (State.comp_setComp_ne v _ hj).trans (h.others j hj)⟩

theorem holdRecord (h : Touches i u v) (w : HoldReason) : Touches i u (holdRecord i w v) :=
  ⟨h.tankers, h.plant, h.lanes, h.lines, h.inspections, h.bays, fun j hj => (State.comp_setComp_ne v _ hj).trans (h.others j hj)⟩

theorem raiseFilled (h : Touches i u v) : Touches i u (raiseFilled i v) :=
  ⟨h.tankers, h.plant, h.lanes, h.lines, h.inspections, h.bays, h.others⟩

end Touches

@[simp] theorem comp_issueCertificate_self (i : Comp) (s : State) :
    (issueCertificate i s).comp i = { s.comp i with state := .cleared, cert := some (newCertificate i s) } :=
  State.comp_setComp_self ..

@[simp] theorem comp_holdRecord_self (i : Comp) (w : HoldReason) (s : State) :
    (holdRecord i w s).comp i = { s.comp i with state := .held, hold := some w, binding := none, cert := none } :=
  State.comp_setComp_self ..

/-! ## Sessions and fills that begin and end (R144, R163, R170) -/

/-- What CT makes of the report of an inspection that has ended: a record in INSPECTING leaves it, and any other stays as it was (R12). -/
structure Judged (i : Comp) (u v : State) : Prop extends Touches i u v where
  same : (u.comp i).state ≠ .inspecting → v.comp i = u.comp i
  sound : (u.comp i).sound = true → (v.comp i).sound = true
  left : (u.comp i).state = .inspecting → (v.comp i).state ≠ .inspecting ∧ (v.comp i).state ≠ .filling

namespace Judged

/-- A report that is not of an INSPECTING record changes nothing. -/
theorem skipped {i : Comp} {u : State} (h : (u.comp i).state ≠ .inspecting) : Judged i u u :=
  ⟨.refl i u, fun _ => rfl, id, fun k => absurd k h⟩

theorem reportPass (i : Comp) (w : Measures) (u : State) : Judged i u (reportPass i w u) := by
  unfold Machine.reportPass
  split
  · next hi =>
    refine ⟨((Touches.refl i u).setComp _).issueCertificate, fun k => absurd hi k, fun hs => ?_, fun _ => by simp⟩
    rw [comp_issueCertificate_self, State.modComp_eq, State.comp_setComp_self]
    exact CompartmentRecord.sound_certified (r := { (u.comp i) with readings := some ⟨w, []⟩ }) (by simp [hi]) (by simp [hi])
      (by simp [newCertificate]) (CompartmentRecord.sound_readings _ (by simp [hi]) hs)
  · next hi => exact skipped hi

theorem reportFail (i : Comp) (w : Measures) (l : List Measure) (u : State) : Judged i u (reportFail i w l u) := by
  unfold Machine.reportFail
  split
  · next hi =>
    refine ⟨((Touches.refl i u).setComp _).holdRecord _, fun k => absurd hi k, fun hs => ?_, fun _ => by simp⟩
    rw [comp_holdRecord_self, State.modComp_eq, State.comp_setComp_self]
    exact CompartmentRecord.sound_held (r := { (u.comp i) with readings := some ⟨w, l⟩ }) (by simp [hi]) _
      (CompartmentRecord.tries_lt_three hi hs).le (CompartmentRecord.sound_readings _ (by simp [hi]) hs)
  · next hi => exact skipped hi

theorem reportLinkError (i : Comp) (u : State) : Judged i u (reportLinkError i u) := by
  unfold Machine.reportLinkError
  split
  · next hi =>
    dsimp only
    split
    · refine ⟨((Touches.refl i u).setComp _).holdRecord _, fun k => absurd hi k, fun hs => ?_, fun _ => by simp⟩
      rw [comp_holdRecord_self, State.modComp_eq, State.comp_setComp_self]
      exact CompartmentRecord.sound_held (r := u.comp i) (by simp [hi]) _ (CompartmentRecord.tries_lt_three hi hs) hs
    · next hn =>
      refine ⟨(Touches.refl i u).setComp _, fun k => absurd hi k, fun hs => ?_, fun _ => by simp⟩
      rw [State.modComp_eq, State.comp_setComp_self]
      exact CompartmentRecord.sound_waiting hi (Nat.lt_of_not_le hn) hs
  · next hi => exact skipped hi

theorem reportNoJudgement (i : Comp) (u : State) : Judged i u (reportNoJudgement i u) := by
  unfold Machine.reportNoJudgement
  split
  · next hi =>
    refine ⟨(Touches.refl i u).setComp _, fun k => absurd hi k, fun hs => ?_, fun _ => by simp⟩
    rw [State.modComp_eq, State.comp_setComp_self]
    exact CompartmentRecord.sound_waiting hi (CompartmentRecord.tries_lt_three hi hs) hs
  · next hi => exact skipped hi

end Judged

end Sys2Proof.Machine
end

section
/-! The ends of inspections and fills keep the laws of the lines and the lanes, and with them every operation of the yard's work. -/

namespace Sys2Proof.Machine

open Sys2Proof (Byte Comp Tanker Bay Chan RecipeSlot CargoClass Line Lane Port)

/-! ## Lines and lanes that take up or give up a record -/

/-- A line that gives up its record, which leaves INSPECTING, keeps the law of the lines (R120, R144). -/
theorem LinesServe.unbind {s t : State} {l : Line} {i : Comp} (hi : (s.line l).bound = some i)
    (hl : (t.line l).state.inSession = false ∧ (t.line l).bound = none) (hx : t.inspection l = none)
    (hlines : ∀ m, m ≠ l → (t.line m).state.inSession = (s.line m).state.inSession ∧ (t.line m).bound = (s.line m).bound)
    (hcontexts : ∀ m, m ≠ l → t.inspection m = s.inspection m) (hleft : (t.comp i).state ≠ .inspecting)
    (hothers : ∀ j, j ≠ i → t.comp j = s.comp j) (h : LinesServe s) : LinesServe t := by
  obtain ⟨session, context, inspecting, served, once⟩ := h
  have bound : ∀ m j, (t.line m).bound = some j → m ≠ l ∧ (s.line m).bound = some j := by
    intro m j hb
    have hm : m ≠ l := by rintro rfl; simp [hl.2] at hb
    exact ⟨hm, (hlines m hm).2 ▸ hb⟩
  have other : ∀ m j, (t.line m).bound = some j → j ≠ i := by
    rintro m j hb rfl
    obtain ⟨hm, hs⟩ := bound m j hb
    exact hm (once m l j hs hi)
  refine ⟨fun m => ?_, fun m => ?_, fun m j hb => ?_, fun j hj => ?_, fun m n j hm hn => ?_⟩
  · by_cases hm : m = l
    · subst hm; simp [hl]
    · rw [(hlines m hm).1, (hlines m hm).2]; exact session m
  · by_cases hm : m = l
    · subst hm; simp [hl, hx]
    · rw [(hlines m hm).2, hcontexts m hm]; exact context m
  · rw [hothers j (other m j hb)]
    exact inspecting m j (bound m j hb).2
  · have hji : j ≠ i := by rintro rfl; exact hleft hj
    rw [hothers j hji] at hj
    obtain ⟨m, hm⟩ := served j hj
    have hml : m ≠ l := by rintro rfl; exact hji (Option.some.inj (hm.symm.trans hi))
    exact ⟨m, (hlines m hml).2.trans hm⟩
  · exact once m n j (bound m j hm).2 (bound n j hn).2

/-- A line out of session that takes up a record which is not inspected yet keeps the law of the lines (R123, R146). -/
theorem LinesServe.bind {s t : State} {l : Line} {x : Inspection} (hs : (s.line l).state.inSession = false)
    (hi : (s.comp x.comp).state ≠ .inspecting)
    (hl : (t.line l).state.inSession = true ∧ (t.line l).bound = some x.comp) (hx : t.inspection l = some x)
    (hlines : ∀ m, m ≠ l → t.line m = s.line m) (hcontexts : ∀ m, m ≠ l → t.inspection m = s.inspection m)
    (hin : (t.comp x.comp).state = .inspecting) (hothers : ∀ j, j ≠ x.comp → t.comp j = s.comp j) (h : LinesServe s) :
    LinesServe t := by
  obtain ⟨session, context, inspecting, served, once⟩ := h
  have unbound : (s.line l).bound = none := by
    have := session l
    rw [hs] at this
    simpa using this
  have fresh : ∀ m, (s.line m).bound ≠ some x.comp := fun m hm => hi (inspecting m _ hm)
  have bound : ∀ m j, m ≠ l → (t.line m).bound = some j → (s.line m).bound = some j := fun m j hm hb => hlines m hm ▸ hb
  refine ⟨fun m => ?_, fun m => ?_, fun m j hb => ?_, fun j hj => ?_, fun m n j hm hn => ?_⟩
  · by_cases hm : m = l
    · subst hm; simp [hl]
    · rw [hlines m hm]; exact session m
  · by_cases hm : m = l
    · subst hm; simp [hl, hx]
    · rw [hlines m hm, hcontexts m hm]; exact context m
  · by_cases hm : m = l
    · subst hm
      obtain rfl := Option.some.inj (hl.2.symm.trans hb)
      exact hin
    · have hj : j ≠ x.comp := by rintro rfl; exact fresh m (bound m _ hm hb)
      rw [hothers j hj]
      exact inspecting m j (bound m j hm hb)
  · by_cases hjx : j = x.comp
    · exact ⟨l, hjx ▸ hl.2⟩
    · rw [hothers j hjx] at hj
      obtain ⟨m, hm⟩ := served j hj
      have hml : m ≠ l := by rintro rfl; simp [unbound] at hm
      exact ⟨m, by rw [hlines m hml]; exact hm⟩
  · by_cases hml : m = l <;> by_cases hnl : n = l
    · rw [hml, hnl]
    · subst hml
      obtain rfl := Option.some.inj (hl.2.symm.trans hm)
      exact absurd (bound n _ hnl hn) (fresh n)
    · subst hnl
      obtain rfl := Option.some.inj (hl.2.symm.trans hn)
      exact absurd (bound m _ hml hm) (fresh m)
    · exact once m n j (bound m j hml hm) (bound n j hnl hn)

/-- A lane that gives up its record, which leaves FILLING, keeps the law of the lanes (R160, R170). -/
theorem LanesServe.unbind {s t : State} {l : Lane} {x : FillContext} (hx : (s.lane l).context = some x)
    (hl : (t.lane l).state = .idle ∧ (t.lane l).context = none) (hlanes : ∀ m, m ≠ l → t.lane m = s.lane m)
    (hleft : (t.comp x.comp).state ≠ .filling) (hothers : ∀ j, j ≠ x.comp → t.comp j = s.comp j) (h : LanesServe s) :
    LanesServe t := by
  obtain ⟨idle, cause, filling, served, once⟩ := h
  have other : ∀ m y, (t.lane m).context = some y → m ≠ l ∧ (s.lane m).context = some y ∧ y.comp ≠ x.comp := by
    intro m y hy
    have hm : m ≠ l := by rintro rfl; simp [hl.2] at hy
    rw [hlanes m hm] at hy
    exact ⟨hm, hy, fun e => hm (once m l y x hy hx e)⟩
  refine ⟨fun m => ?_, fun m => ?_, fun m y hy => ?_, fun j hj => ?_, fun m n y z hy hz e => ?_⟩
  · by_cases hm : m = l
    · subst hm; simp [hl]
    · rw [hlanes m hm]; exact idle m
  · by_cases hm : m = l
    · subst hm; simp [hl]
    · rw [hlanes m hm]; exact cause m
  · obtain ⟨-, hs, hne⟩ := other m y hy
    rw [hothers _ hne]
    exact filling m y hs
  · have hjx : j ≠ x.comp := by rintro rfl; exact hleft hj
    rw [hothers j hjx] at hj
    obtain ⟨m, y, hy, rfl⟩ := served j hj
    have hml : m ≠ l := by rintro rfl; exact hjx (by rw [Option.some.inj (hy.symm.trans hx)])
    exact ⟨m, y, by rw [hlanes m hml]; exact hy, rfl⟩
  · exact once m n y z (other m y hy).2.1 (other n z hz).2.1 e

/-- An idle lane that takes up a record which is not filled yet keeps the law of the lanes (R160, R163). -/
theorem LanesServe.bind {s t : State} {l : Lane} {x : FillContext} (hs : (s.lane l).state = .idle)
    (hi : (s.comp x.comp).state ≠ .filling) (hl : (t.lane l).state = .active ∧ (t.lane l).context = some x)
    (hlanes : ∀ m, m ≠ l → t.lane m = s.lane m) (hin : (t.comp x.comp).state = .filling)
    (hothers : ∀ j, j ≠ x.comp → t.comp j = s.comp j) (h : LanesServe s) : LanesServe t := by
  obtain ⟨idle, cause, filling, served, once⟩ := h
  have unbound : (s.lane l).context = none := (idle l).1 hs
  have fresh : ∀ m y, (s.lane m).context = some y → y.comp ≠ x.comp := fun m y hy e => hi (e ▸ filling m y hy)
  have context : ∀ m y, m ≠ l → (t.lane m).context = some y → (s.lane m).context = some y := fun m y hm hy => hlanes m hm ▸ hy
  refine ⟨fun m => ?_, fun m => ?_, fun m y hy => ?_, fun j hj => ?_, fun m n y z hy hz e => ?_⟩
  · by_cases hm : m = l
    · subst hm; simp [hl]
    · rw [hlanes m hm]; exact idle m
  · by_cases hm : m = l
    · subst hm; simp [hl]
    · rw [hlanes m hm]; exact cause m
  · by_cases hm : m = l
    · subst hm
      obtain rfl := Option.some.inj (hl.2.symm.trans hy)
      exact hin
    · have hy' := context m y hm hy
      rw [hothers _ (fresh m y hy')]
      exact filling m y hy'
  · by_cases hjx : j = x.comp
    · exact ⟨l, x, hl.2, hjx.symm⟩
    · rw [hothers j hjx] at hj
      obtain ⟨m, y, hy, rfl⟩ := served j hj
      have hml : m ≠ l := by rintro rfl; simp [unbound] at hy
      exact ⟨m, y, by rw [hlanes m hml]; exact hy, rfl⟩
  · by_cases hml : m = l <;> by_cases hnl : n = l
    · rw [hml, hnl]
    · subst hml
      obtain rfl := Option.some.inj (hl.2.symm.trans hy)
      exact absurd e.symm (fresh n z (context n z hnl hz))
    · subst hnl
      obtain rfl := Option.some.inj (hl.2.symm.trans hz)
      exact absurd e (fresh m y (context m y hml hy))
    · exact once m n y z (context m y hml hy) (context n z hnl hz) e

end Sys2Proof.Machine
end

section
/-! Every operation of the yard's work keeps the laws (`Lawful`): the records (R7 to R15), the channels and their claims (R79 to R106), the
bays (R62, R67, R68), the probe lines and inspections (R123 to R151), and the fill lanes (R163 to R170). -/

namespace Sys2Proof.Machine

open Sys2Proof (Byte Comp Tanker Bay Chan RecipeSlot CargoClass Line Lane Port)

namespace Lawful

variable {s t : State}

/-! ## Records -/

theorem oweAttempt (h : Lawful s t) (b : Bay) : Lawful s (oweAttempt b t) := h.modBay b _

theorem issueCertificate (h : Lawful s t) {i : Comp} (hi : (t.comp i).state = .booked ∨ (t.comp i).state = .inspectWait)
    (hn : (t.comp i).state = .booked → (t.comp i).nextClass.isSome = true) : Lawful s (issueCertificate i t) :=
  ((h.modComp (.certified hi hn rfl)).setCertCounter _).raiseNotice ..

theorem holdRecord (h : Lawful s t) {i : Comp} (w : HoldReason)
    (hi : (t.comp i).state = .washing ∨ (t.comp i).state = .inspectWait ∨ (t.comp i).state = .cleared) :
    Lawful s (holdRecord i w t) :=
  (h.modComp (.held hi w)).raiseNotice ..

theorem queueInOn (h : Lawful s t) (cell : Cell) (b : Bay) {i : Comp} (hi : (t.comp i).state = .booked)
    (hn : (t.comp i).nextClass.isSome = true) : Lawful s (queueInOn cell b i t) := by
  unfold Machine.queueInOn
  split
  · exact (h.modComp (.queued hi hn _)).modBay b _
  · split
    · exact h.modComp (.waiting hi hn)
    · exact h.issueCertificate (.inl hi) fun _ => hn
  · exact h.modComp (.classed hi nofun)

theorem queueIn (h : Lawful s t) (b : Bay) {i : Comp} (hi : (t.comp i).state = .booked) : Lawful s (queueIn b i t) := by
  unfold Machine.queueIn
  split
  · exact h
  · next hn => exact h.queueInOn _ b hi (by simp [hn])

theorem queueInAlone (h : Lawful s t) {i : Comp} (hi : (t.comp i).state = .booked) : Lawful s (queueInAlone i t) := by
  unfold Machine.queueInAlone
  split
  · exact h
  · dsimp only
    split
    · exact (h.queueIn _ hi).oweAttempt _
    · exact h.queueIn _ hi

theorem reportRounds (h : Lawful s t) (i : Comp) (c : Chan) (n : Nat) : Lawful s (reportRounds i c n t) := by
  unfold Machine.reportRounds
  split
  · next hw => exact h.modComp (.rounds (washing_of_washingOn hw) _)
  · exact h

theorem reportComplete (h : Lawful s t) (i : Comp) (c : Chan) : Lawful s (reportComplete i c t) := by
  unfold Machine.reportComplete
  split
  · next hw =>
    have done : Lawful s (t.modComp i fun r => { r with state := .inspectWait, binding := none, plan := none }) :=
      h.modComp (.completed (washing_of_washingOn hw))
    dsimp only
    split
    · exact done
    · exact done.issueCertificate (.inr (by simp)) (by simp)
  · exact h

theorem reportStopped (h : Lawful s t) (i : Comp) (c : Chan) (w : Reason) : Lawful s (reportStopped i c w t) := by
  unfold Machine.reportStopped
  split
  · next hw => exact h.holdRecord _ (.inl (washing_of_washingOn hw))
  · exact h

theorem returnBinding (h : Lawful s t) (i : Comp) (c : Chan) : Lawful s (returnBinding i c t) := by
  unfold Machine.returnBinding
  split
  · next hw => exact (h.modComp (.returned (washing_of_washingOn hw))).modBay _ _
  · exact h

theorem examineExpiry (h : Lawful s t) (i : Comp) : Lawful s (examineExpiry i t) := by
  unfold Machine.examineExpiry
  dsimp only
  split
  · next hc => exact (h.raiseNotice ..).holdRecord _ (.inr (.inr hc.1))
  · exact h

/-! ## Channels and claims -/

theorem modRun (h : Lawful s t) (c : Chan) (f : RunContext → RunContext) : Lawful s (modRun c f t) := h.modChan c _

theorem modHeads (h : Lawful s t) (l : List Chan) (f : WashChannel → WashChannel) : Lawful s (modHeads l f t) :=
  h.foldl _ (fun u c => (refl u).modChan c f) l

theorem enterIdle (h : Lawful s t) (c : Chan) : Lawful s (enterIdle c t) := (h.modChan c _).oweAttempt _

theorem endStopping (h : Lawful s t) (c : Chan) : Lawful s (endStopping c t) := by
  unfold Machine.endStopping
  dsimp only
  split
  · exact (h.modChan c _).enterIdle c
  · exact h.modChan c _

theorem stopHead (h : Lawful s t) (x : Chan × Reason) : Lawful s (stopHead t x) := by
  have report : Lawful s ((t.chan x.1).binding.elim t fun b => Machine.reportStopped b.comp x.1 x.2 t) := by
    cases (t.chan x.1).binding with
    | none => exact h
    | some b => exact h.reportStopped ..
  unfold Machine.stopHead
  dsimp only
  split
  · split <;> exact ((report.modChan _ _).raiseNotice ..).endStopping _
  · split <;> exact (report.modChan _ _).raiseNotice ..

theorem stopHeads (h : Lawful s t) (l : List (Chan × Reason)) : Lawful s (stopHeads l t) :=
  h.foldl _ (fun u x => (refl u).stopHead x) l

theorem startPass (h : Lawful s t) (c : Chan) : Lawful s (startPass c t) := (h.modHeads _ _).modRun c _

theorem judgeNoPermit (h : Lawful s t) (c : Chan) : Lawful s (judgeNoPermit c t).1 := by
  unfold Machine.judgeNoPermit
  split
  · exact h
  · split
    · exact h.modHeads _ _
    · split <;> [exact h.stopHeads _; exact h]

theorem enterRunning (h : Lawful s t) (c : Chan) : Lawful s (enterRunning c t).1 := by
  unfold Machine.enterRunning
  dsimp only
  split
  · exact (h.modHeads _ _).startPass c
  · exact ((h.modHeads _ _).startPass c).judgeNoPermit c

theorem handGrant (h : Lawful s t) (c : Chan) : Lawful s (handGrant c t).1 := by
  unfold Machine.handGrant; split <;> [exact h.enterRunning c; exact h]

theorem handGrants (h : Lawful s t) (l : List Chan) : Lawful s (handGrants l t).1 := by
  induction l generalizing t with
  | nil => exact h
  | cons c l ih => exact ih (h.handGrant c)

theorem makePass (h : Lawful s t) : Lawful s (makePass t).1 := (h.setPlant (Plant.pass_priority _ _)).handGrants _

theorem release (h : Lawful s t) (c : Chan) : Lawful s (t.setPlant (t.plant.setGrant c none)) := h.setPlant id

theorem setClaim (h : Lawful s t) (c : Chan) (x : Option Claim) : Lawful s (t.setPlant (t.plant.setClaim c x)) := h.setPlant id

theorem takeReleases (h : Lawful s t) (n : Nat) (l : List Chan) : Lawful s (takeReleases n l t) := by
  induction n generalizing t l with
  | zero => exact h
  | succ n ih =>
    cases l with
    | nil => exact h
    | cons c l =>
      unfold Machine.takeReleases
      split
      · exact ih (h.release c).makePass _
      · exact ih h _

theorem arbitrate (h : Lawful s t) : Lawful s (arbitrate t) := h.makePass.takeReleases _ _

theorem releaseGrant (h : Lawful s t) (c : Chan) : Lawful s (releaseGrant c t) := h.takeReleases _ _

theorem withdrawClaim (h : Lawful s t) (c : Chan) : Lawful s (withdrawClaim c t) := by
  unfold Machine.withdrawClaim; split <;> [exact (h.setClaim c none).arbitrate; exact h]

theorem giveBack (h : Lawful s t) (c : Chan) : Lawful s (giveBack c t) := by
  unfold Machine.giveBack; split <;> [exact h.releaseGrant c; exact h.withdrawClaim c]

theorem lodgeClaim (h : Lawful s t) (c : Chan) (k : ClaimKind) (u : Units) : Lawful s (lodgeClaim c k u t) := by
  unfold Machine.lodgeClaim; split <;> [exact (h.setClaim c _).arbitrate; exact h.stopHeads _]

theorem beginStep (h : Lawful s t) (c : Chan) (n : Nat) : Lawful s (beginStep c n t) := by
  have begun := (h.modRun c fun r => { r with step := n }).modHeads (headsOf t c) fun x => { x with state := .claiming }
  unfold Machine.beginStep
  dsimp only
  split
  · exact begun
  · split
    · exact ((begun.modRun c _).enterRunning c).takeReleases _ _
    · exact (begun.modRun c _).lodgeClaim ..

theorem completeRun (h : Lawful s t) (c : Chan) : Lawful s (completeRun c t) := by
  unfold Machine.completeRun
  refine foldl _ (fun u d => (((refl u).modChan d _).enterIdle d).raiseNotice ..) ?_ _
  cases (t.chan c).binding with
  | none => exact h
  | some b => exact h.reportComplete ..

theorem endRound (h : Lawful s t) (c : Chan) : Lawful s (endRound c t) := by
  unfold Machine.endRound
  split
  · dsimp only
    split
    · refine beginStep ?_ c 1
      cases ((Machine.modRun c _ t).chan c).binding with
      | none => exact h.modRun c _
      | some b => exact (h.modRun c _).reportRounds ..
    · exact (h.modRun c _).completeRun c
  · exact h

theorem endStep (h : Lawful s t) (c : Chan) : Lawful s (endStep c t) := by
  have released := (h.modHeads (headsOf t c) fun x => { x with state := .claiming }).releaseGrant c
  unfold Machine.endStep
  dsimp only
  split
  · split <;> [exact released.beginStep c _; exact released.endRound c]
  · exact released

theorem endPass (h : Lawful s t) (c : Chan) : Lawful s (endPass c t) := by
  unfold Machine.endPass
  split
  · exact h
  · split <;> [exact h.endStep c; exact (h.modRun c _).startPass c]

theorem stopRun (h : Lawful s t) (c : Chan) (l : List (Chan × Reason)) : Lawful s (stopRun c l t) := (h.stopHeads l).giveBack c

theorem giveBindingBack (h : Lawful s t) (c : Chan) : Lawful s (giveBindingBack c t) := by
  unfold Machine.giveBindingBack
  refine withdrawClaim (modHeads ?_ _ _) c
  cases (t.chan c).binding with
  | none => exact h
  | some b => exact h.returnBinding ..

theorem setRun (h : Lawful s t) (c : Chan) (x : RecipeSlot) (n : Nat) : Lawful s (setRun c x n t) := h.modChan c _

theorem dropClaim (h : Lawful s t) (c : Chan) : Lawful s (dropClaim t c) := by
  unfold Machine.dropClaim
  dsimp only
  split <;> [exact (h.setClaim c none).stopHeads _; exact h.setClaim c none]

theorem changeHotCapacity (h : Lawful s t) (n : Nat) : Lawful s (changeHotCapacity n t) := by
  have changed : Lawful s (t.setPlant { t.plant with hotCapacity := n }) := h.setPlant id
  exact (changed.foldl _ (fun u c => (refl u).dropClaim c) _).arbitrate

/-! ## Channel events -/

theorem passTimerOut (h : Lawful s t) (c : Chan) : Lawful s (passTimerOut c t) := by
  unfold Machine.passTimerOut
  dsimp only
  split
  · split <;> [exact h.endPass _; exact h]
  · exact h

theorem runningTimeOut (h : Lawful s t) (c : Chan) : Lawful s (runningTimeOut c t) := by
  unfold Machine.runningTimeOut
  dsimp only
  split
  · split <;> [exact h.endPass _; exact h]
  · exact h

theorem flowPulse (h : Lawful s t) (c : Chan) : Lawful s (flowPulse c t) := by
  unfold Machine.flowPulse
  split
  · exact h
  · split
    · dsimp only
      split
      · exact h.modChan c _
      · split
        · split
          · exact ((h.modChan c _).modChan c _).endPass _
          · exact (h.modChan c _).modChan c _
        · exact (h.modChan c _).endPass c
    · exact h

theorem guardOut (h : Lawful s t) (c : Chan) : Lawful s (guardOut c t) := by
  unfold Machine.guardOut
  dsimp only
  split
  · split <;> [exact h.stopRun ..; exact h]
  · exact h

theorem permitDropOn (h : Lawful s t) (l : List Chan) (c : Chan) : Lawful s (permitDropOn l t c) := by
  unfold Machine.permitDropOn; split <;> [exact (h.judgeNoPermit c).takeReleases _ _; exact h]

theorem permitDrop (h : Lawful s t) (d : PermitDrop) : Lawful s (permitDrop d t) := by
  have level : Lawful s { t with permit := false } := h.trans (of_same rfl rfl rfl rfl rfl rfl rfl)
  exact level.foldl _ (fun u c => (refl u).permitDropOn d.met c) _

theorem permitReturn (h : Lawful s t) : Lawful s (permitReturn t) := h.trans (of_same rfl rfl rfl rfl rfl rfl rfl)

theorem pauseOut (h : Lawful s t) (c : Chan) : Lawful s (pauseOut c t) := by
  unfold Machine.pauseOut
  dsimp only
  split <;> [exact h.stopRun ..; exact h]

theorem setHeadIn (h : Lawful s t) (c : Chan) (b : Bool) : Lawful s (setHeadIn c b t) := h.modChan c _

theorem headDrop (h : Lawful s t) (c : Chan) : Lawful s (headDrop c t) := by
  have level := h.setHeadIn c false
  unfold Machine.headDrop
  dsimp only
  split
  · exact level
  · split
    case h_1 => exact (level.modHeads _ _).withdrawClaim _
    case h_2 => exact level.stopRun ..
    case h_3 => exact level.stopRun ..
    all_goals exact level

theorem drainOut (h : Lawful s t) (c : Chan) : Lawful s (drainOut c t) := by
  unfold Machine.drainOut; split <;> [exact h.endStopping c; exact h]

/-! ## Bays -/

theorem bindChannel (h : Lawful s t) (i : Comp) (c : Chan) (r : Role) : Lawful s (bindChannel i c r t) :=
  (h.modChan c _).raiseNotice ..

theorem bindFront (h : Lawful s t) (b : Bay) {i : Comp} (x : Placement) (hi : (t.comp i).state = .queued) :
    Lawful s (bindFront b i x t) := by
  have taken : ∀ k, Lawful s ((t.modBay b fun y => { y with queue := y.queue.drop 1 }).modComp i
      fun r => { r with state := .washing, binding := some k, expedite := false }) :=
    fun k => (h.modBay b _).modComp (.bound hi k)
  unfold Machine.bindFront
  dsimp only
  split
  · exact (taken _).bindChannel ..
  · exact ((taken _).bindChannel ..).bindChannel ..

theorem queued_of_placement {b : Bay} {i : Comp} {x : Placement} (hx : placement s b i = some x) :
    (s.comp i).state = .queued := by
  unfold placement at hx
  split at hx
  · exact nomatch hx
  · next hi => exact not_not.1 hi

theorem bindFronts (h : Lawful s t) (n : Nat) (b : Bay) : Lawful s (bindFronts n b t).1 := by
  induction n generalizing t with
  | zero => exact h
  | succ n ih =>
    unfold Machine.bindFronts
    split
    · exact h
    · split
      · exact h
      · next hx => exact ih (h.bindFront b _ (queued_of_placement hx))

theorem dispatch (h : Lawful s t) (b : Bay) : Lawful s (dispatch b t).1 := by
  unfold Machine.dispatch; split <;> [exact h; exact h.bindFronts ..]

theorem dispatchOwed (h : Lawful s t) (b : Bay) : Lawful s (dispatchOwed b t) := by
  unfold Machine.dispatchOwed; split <;> [exact h; exact (h.modBay b _).dispatch b]

theorem unqueueRecord (h : Lawful s t) (i : Comp) : Lawful s (unqueueRecord t i) := by
  unfold Machine.unqueueRecord
  split
  · next hi => exact h.modComp (.unqueued hi)
  · exact h

/-! ## Probe lines and inspections -/

/-- The end of an inspection: its line has closed, CT has the report, and the context is absent (R144). -/
theorem inspectionEnds (h : Lawful s t) {l : Line} {x : Inspection} (hx : ((t.inspection l).map fun y => y.comp) = some x.comp)
    (e : Option LinkError) (o : InspectionOutcome) {report : State → State} (hr : ∀ u, Judged x.comp u (report u)) :
    Lawful s (finishInspection l x o (report (closeLine l e t))) := by
  have closed : ∀ m, m ≠ l → (closeLine l e t).line m = t.line m := fun m hm => by
    unfold Machine.closeLine
    split <;> [exact State.line_setLine_ne t _ hm; rfl]
  have parts : (closeLine l e t).comps = t.comps ∧ (closeLine l e t).lanes = t.lanes ∧ (closeLine l e t).tankers = t.tankers
      ∧ (closeLine l e t).plant = t.plant ∧ (closeLine l e t).inspections = t.inspections
      ∧ (closeLine l e t).bays = t.bays := by
    unfold Machine.closeLine
    split <;> exact ⟨rfl, rfl, rfl, rfl, rfl, rfl⟩
  obtain ⟨hcomps, hlanes, htankers, hplant, hcontexts, hbays⟩ := parts
  have judged := hr (closeLine l e t)
  have comp : ∀ j, (closeLine l e t).comp j = t.comp j := fun j => by simp only [State.comp, hcomps]
  have others : ∀ j, j ≠ x.comp → (report (closeLine l e t)).comp j = t.comp j := fun j hj => (judged.others j hj).trans (comp j)
  have line : ∀ m, (report (closeLine l e t)).line m = (closeLine l e t).line m := fun m => by
    simp only [State.line, judged.lines]
  have context : ∀ m, (report (closeLine l e t)).inspection m = t.inspection m := fun m => by
    simp only [State.inspection, judged.inspections, hcontexts]
  refine h.trans ⟨ListsDistinct.congr (judged.tankers.trans htankers), fun hp => ?_, fun hs j => ?_, ?_, fun hs => ?_,
    fun b => congrArg (fun v : Vector BayState 4 => v[b].twoHead) (judged.bays.trans hbays)⟩
  · show (report (closeLine l e t)).plant.priority.Perm _
    rw [judged.plant, hplant]
    exact hp
  · show ((report (closeLine l e t)).comp j).sound = true
    by_cases hj : j = x.comp
    · subst hj
      exact judged.sound (by rw [comp]; exact hs _)
    · rw [others j hj]; exact hs j
  · refine LanesServe.congr (judged.lanes.trans hlanes) fun j => ?_
    show ((report (closeLine l e t)).comp j).state = .filling ↔ _
    by_cases hj : j = x.comp
    · subst hj
      by_cases hi : (t.comp x.comp).state = .inspecting
      · have left := judged.left (by rw [comp]; exact hi)
        simp [left.2, hi]
      · rw [judged.same (by rw [comp]; exact hi), comp]
    · rw [others j hj]
  · have bound : (t.line l).bound = some x.comp := (hs.2.1 l).trans hx
    have session : (t.line l).state.inSession = true := (hs.1 l).2 (by simp [bound])
    have shut : ((closeLine l e t).line l).state = .closing ∧ ((closeLine l e t).line l).bound = none := by
      unfold Machine.closeLine
      rw [if_pos session]
      simp [ProbeLine.close]
    refine LinesServe.unbind bound ?_ (State.inspection_setInspection_self ..) (fun m hm => ?_) (fun m hm => ?_) ?_ others hs
    · simp [finishInspection, raiseInspectionEnded, line, shut, LineState.inSession]
    · simp [finishInspection, raiseInspectionEnded, State.line_setLine_ne _ _ hm, line, closed m hm]
    · simp [finishInspection, raiseInspectionEnded, State.inspection_setInspection_ne _ _ hm, context]
    · exact (judged.left (by rw [comp]; exact hs.2.2.1 l _ bound)).1

theorem linkError (h : Lawful s t) (l : Line) (e : LinkError) : Lawful s (linkError l e t) := by
  unfold Machine.linkError
  split
  · next hs =>
    dsimp only
    split
    · next hx =>
      refine h.trans ?_
      unfold Machine.closeLine
      rw [if_pos hs]
      refine ⟨id, id, id, id, fun k => ?_, fun _ => rfl⟩
      have bound := (k.1 l).1 hs
      rw [k.2.1 l, hx] at bound
      exact nomatch bound
    · next x hx => exact h.inspectionEnds (by rw [hx]; rfl) _ _ (Judged.reportLinkError x.comp)
  · exact h

theorem requestExchange (h : Lawful s t) (l : Line) (d : List Byte) : Lawful s (requestExchange l d t) := by
  unfold Machine.requestExchange
  split
  · next hs => exact h.modLine ⟨by rw [hs]; rfl, rfl⟩
  · exact h

theorem openedReport (h : Lawful s t) (l : Line) (n : Nat) : Lawful s (openedReport l n t) := by
  unfold Machine.openedReport
  split
  · exact h
  · next x hx =>
    split
    · exact h.inspectionEnds (by rw [hx]; rfl) _ _ (Judged.reportNoJudgement x.comp)
    · exact (h.setInspection (by rw [hx]; rfl)).requestExchange ..

theorem judgeInspection (h : Lawful s t) {l : Line} {x : Inspection}
    (hx : ((t.inspection l).map fun y => y.comp) = some x.comp) : Lawful s (judgeInspection l x t) := by
  unfold Machine.judgeInspection
  dsimp only
  split
  · exact h.inspectionEnds hx _ _ (Judged.reportPass x.comp _)
  · exact h.inspectionEnds hx _ _ (Judged.reportFail x.comp _ _)

theorem exchangeDone (h : Lawful s t) (l : Line) (d : List Byte) : Lawful s (exchangeDone l d t) := by
  unfold Machine.exchangeDone
  split
  · exact h
  · next x hx =>
    split
    · exact h.inspectionEnds (by rw [hx]; rfl) _ _ (Judged.reportLinkError x.comp)
    · dsimp only
      split
      · exact (h.setInspection (by rw [hx]; rfl)).requestExchange ..
      · exact h.judgeInspection (by rw [hx]; rfl)

theorem endCharacter (h : Lawful s t) (l : Line) (e : Bool) : Lawful s (endCharacter l e t) := by
  have transmit : ∀ (y : ProbeLine) (n : Nat) (b : Bool), LineMove y (y.transmit n b) := fun y n b => by
    unfold ProbeLine.transmit; split <;> exact ⟨rfl, rfl⟩
  unfold Machine.endCharacter
  split
  · next hs _ =>
    split
    · exact h
    · split
      · split <;> [exact h.linkError ..; exact h.modLine (transmit ..)]
      · split
        · exact h.modLine ⟨by rw [hs]; rfl, rfl⟩
        · exact h.modLine ⟨(transmit ..).session, (transmit ..).bound⟩
  · exact h

theorem startBlock (h : Lawful s t) (l : Line) : Lawful s (startBlock l t) := by
  unfold Machine.startBlock
  split
  · split
    · exact h
    · refine h.modLine ?_
      unfold ProbeLine.transmit
      split <;> exact ⟨rfl, rfl⟩
  · exact h

theorem judgeReply (h : Lawful s t) {l : Line} (hs : (t.line l).state = .opening) : Lawful s (judgeReply l t) := by
  unfold Machine.judgeReply
  dsimp only
  split
  · exact h.linkError ..
  · split
    · exact h.linkError ..
    · exact (h.modLine ⟨by rw [hs]; rfl, rfl⟩).openedReport ..

theorem repeatWith (h : Lawful s t) {l : Line} (hs : (t.line l).state = .receiving) (d : List Byte) :
    Lawful s (repeatWith l d t) := by
  unfold Machine.repeatWith
  split <;> [exact h.linkError ..; exact h.modLine ⟨by rw [hs]; rfl, rfl⟩]

theorem extendWait (h : Lawful s t) {l : Line} (hs : (t.line l).state = .receiving) (f : Byte) :
    Lawful s (extendWait l f t) := by
  unfold Machine.extendWait
  split <;> [exact h.linkError ..; exact h.modLine ⟨by rw [hs]; rfl, rfl⟩]

theorem judgeBlock (h : Lawful s t) {l : Line} (hs : (t.line l).state = .receiving) : Lawful s (judgeBlock l t) := by
  unfold Machine.judgeBlock
  dsimp only
  split
  · exact h.repeatWith hs _
  · split
    · exact h.linkError ..
    · split
      · split <;> [exact h.linkError ..; exact h.repeatWith hs _]
      · split
        · split <;> [exact h.linkError ..; exact h.extendWait hs _]
        · exact (h.modLine ⟨by rw [hs]; rfl, rfl⟩).exchangeDone ..

theorem replyReceived (h : Lawful s t) (l : Line) : Lawful s (replyReceived l t) := by
  unfold Machine.replyReceived
  split
  · next hs => exact h.judgeReply hs.1
  · exact h

theorem blockReceived (h : Lawful s t) (l : Line) : Lawful s (blockReceived l t) := by
  unfold Machine.blockReceived
  split
  · next hs => exact h.judgeBlock hs.1
  · exact h

theorem badCharacter (h : Lawful s t) (l : Line) : Lawful s (badCharacter l t) := by
  unfold Machine.badCharacter
  dsimp only
  split <;> [exact (h.modLine ⟨rfl, rfl⟩).linkError ..; exact h.modLine ⟨rfl, rfl⟩]

theorem noteCharacter (h : Lawful s t) (l : Line) : Lawful s (noteCharacter l t) := h.modLine ⟨rfl, rfl⟩

theorem openingCharacter (h : Lawful s t) (l : Line) (c : ProbeChar) : Lawful s (openingCharacter l c t) := by
  unfold Machine.openingCharacter
  have noted : Lawful s ((Machine.noteCharacter l t).modLine l fun x =>
      { x with timers := { x.timers with sync := none, opening := x.timers.opening.or (x.timer (t.setting .openLimit)) } }) :=
    (h.noteCharacter l).modLine ⟨rfl, rfl⟩
  dsimp only
  split
  · exact noted.badCharacter l
  · split
    · split
      · exact noted.modLine ⟨rfl, rfl⟩
      · split <;> [exact noted.modLine ⟨rfl, rfl⟩; exact (noted.modLine ⟨rfl, rfl⟩).linkError ..]
    · split <;> [exact noted.modLine ⟨rfl, rfl⟩; exact (noted.modLine ⟨rfl, rfl⟩).linkError ..]
    · refine noted.modLine ?_
      split <;> exact ⟨rfl, rfl⟩

theorem blockCharacter (h : Lawful s t) (l : Line) (c : ProbeChar) : Lawful s (blockCharacter l c t) := by
  unfold Machine.blockCharacter
  dsimp only
  split
  · exact (h.noteCharacter l).badCharacter l
  · refine (h.noteCharacter l).modLine ?_
    split
    · exact ⟨rfl, rfl⟩
    · split
      · exact ⟨rfl, rfl⟩
      · split <;> exact ⟨rfl, rfl⟩

theorem probeCharacter (h : Lawful s t) (l : Line) (c : ProbeChar) : Lawful s (probeCharacter l c t) := by
  have judged := (h.replyReceived l).blockReceived l
  unfold Machine.probeCharacter
  dsimp only
  split
  case h_1 => exact judged.openingCharacter ..
  case h_2 => exact judged.linkError ..
  case h_3 hs => exact (judged.modLine ⟨by rw [hs]; rfl, rfl⟩).blockCharacter ..
  case h_4 => exact judged.blockCharacter ..
  all_goals exact judged

theorem pdockLevel (h : Lawful s t) (l : Line) (b : Bool) : Lawful s (pdockLevel l b t) := h.modLine ⟨rfl, rfl⟩

theorem debounceOut (h : Lawful s t) (l : Line) : Lawful s (debounceOut l t) := by
  have debounced : Lawful s (t.modLine l fun y => { y with docked := (t.line l).pdock, debounce := none }) :=
    h.modLine ⟨rfl, rfl⟩
  unfold Machine.debounceOut
  dsimp only
  split
  · exact h
  · split
    case h_1 hs => split <;> [exact debounced.modLine ⟨by simp [hs, LineState.inSession], rfl⟩; exact debounced]
    case h_2 hs => split <;> [exact debounced; exact debounced.modLine ⟨by simp [hs, LineState.inSession], rfl⟩]
    case h_10 => exact debounced
    all_goals split <;> [exact debounced; exact debounced.linkError ..]

theorem powerUpOut (h : Lawful s t) (l : Line) : Lawful s (powerUpOut l t) := by
  unfold Machine.powerUpOut
  split
  · next hs => exact h.modLine ⟨by rw [hs]; rfl, rfl⟩
  · exact h

theorem resetLengthOut (h : Lawful s t) (l : Line) : Lawful s (resetLengthOut l t) := by
  unfold Machine.resetLengthOut
  split
  · next hs => exact h.modLine ⟨by rw [hs]; rfl, rfl⟩
  · exact h

theorem syncOut (h : Lawful s t) (l : Line) : Lawful s (syncOut l t) := by
  unfold Machine.syncOut; split <;> [exact h.linkError ..; exact h]

theorem openLimitOut (h : Lawful s t) (l : Line) : Lawful s (openLimitOut l t) := by
  unfold Machine.openLimitOut; split <;> [exact h.linkError ..; exact h]

theorem blockWaitOut (h : Lawful s t) (l : Line) : Lawful s (blockWaitOut l t) := by
  unfold Machine.blockWaitOut; split <;> [exact h.linkError ..; exact h]

theorem charWaitOut (h : Lawful s t) (l : Line) : Lawful s (charWaitOut l t) := by
  unfold Machine.charWaitOut
  split
  · next hs => exact h.repeatWith hs.1 _
  · exact h

theorem offOut (h : Lawful s t) (l : Line) : Lawful s (offOut l t) := by
  unfold Machine.offOut
  split
  · next hs => exact h.modLine ⟨by rw [hs]; dsimp only; split <;> rfl, rfl⟩
  · exact h

theorem startInspection (h : Lawful s t) (b : Bay) {l : Line} {i : Comp} (hi : (t.comp i).state = .inspectWait)
    (hl : (t.line l).state = .docked) : Lawful s (startInspection b l i t) := by
  unfold Machine.startInspection Machine.openLine
  dsimp only
  rw [if_pos (by simpa using hl)]
  refine h.trans ⟨id, id, fun hs j => ?_, .congr rfl fun j => ?_, fun hs => ?_, fun _ => rfl⟩
  · simp only [State.modLine_eq, State.modComp_eq, State.comp_setLine, State.comp_setInspection, State.comp_setComp]
    split
    · exact CompartmentRecord.sound_inspecting hi (hs i)
    · exact hs j
  · simp only [State.modLine_eq, State.modComp_eq, State.comp_setLine, State.comp_setInspection, State.comp_setComp]
    split
    · next e => simp [e, hi]
    · rfl
  · refine LinesServe.bind (l := l) (x := Inspection.mk i b _ _ _ _ _) (by rw [hl]; rfl) (by simp [hi]) ?_
      (State.inspection_setInspection_self ..) (fun m hm => ?_) (fun m hm => ?_) ?_ (fun j hj => ?_) hs
    · simp [ProbeLine.open, LineState.inSession]
    · simp [State.line_setLine_ne _ _ hm]
    · exact State.inspection_setInspection_ne _ _ hm
    · simp
    · exact State.comp_setComp_ne _ _ hj

/-! ## Fill lanes -/

theorem closeLane (h : Lawful s t) (l : Lane) (o : FillOutcome) : Lawful s (closeLane l o t) := by
  unfold Machine.closeLane
  split
  · next hs => exact h.modLane ⟨rfl, by simp [FillLane.closeValve, hs], fun _ _ => rfl⟩
  · exact h

theorem authorize (h : Lawful s t) {l : Lane} {x : FillContext} (hl : (t.lane l).state = .idle)
    (hi : (t.comp x.comp).state = .cleared) : Lawful s (authorize l x t) := by
  unfold Machine.authorize
  refine h.trans ⟨id, id, fun hs j => ?_, fun hs => ?_, .congr rfl rfl fun j => ?_, fun _ => rfl⟩
  · simp only [State.modLane_eq, State.modComp_eq, State.comp_setComp, State.comp_setLane]
    split
    · exact CompartmentRecord.sound_filling hi (hs _)
    · exact hs j
  · refine LanesServe.bind (x := x) hl (by simp [hi]) (by simp) (fun m hm => ?_) (by simp) (fun j hj => ?_) hs
    · exact State.lane_setLane_ne _ _ hm
    · exact State.comp_setComp_ne _ _ hj
  · simp only [State.modLane_eq, State.modComp_eq, State.comp_setComp, State.comp_setLane]
    split
    · next e => simp [e, hi]
    · rfl

theorem meterPulse (h : Lawful s t) (l : Lane) : Lawful s (meterPulse l t) := by
  unfold Machine.meterPulse
  dsimp only
  split
  · exact h
  · split
    · exact (h.modLane ⟨rfl, Iff.rfl, id⟩).closeLane ..
    · exact h.modLane ⟨rfl, Iff.rfl, id⟩
  · exact h.modLane ⟨rfl, Iff.rfl, id⟩

theorem noFlowOut (h : Lawful s t) (l : Lane) : Lawful s (noFlowOut l t) := by
  unfold Machine.noFlowOut; split <;> [exact h.closeLane ..; exact h]

theorem setArm (h : Lawful s t) (l : Lane) (b : Bool) : Lawful s (setArm l b t) := h.modLane ⟨rfl, Iff.rfl, id⟩

/-- What the report of a fill makes of the records: one in FILLING becomes FILLED or CLEARED, any other stays (R14). -/
theorem reportFill_touches (l : Lane) (x : FillContext) (n : Nat) (o : FillOutcome) (u : State) :
    Touches x.comp u (reportFill l x n o u)
      ∧ ((u.comp x.comp).sound = true → ((reportFill l x n o u).comp x.comp).sound = true)
      ∧ ((u.comp x.comp).state = .filling →
          ((reportFill l x n o u).comp x.comp).state ≠ .filling ∧ ((reportFill l x n o u).comp x.comp).state ≠ .inspecting)
      ∧ ((u.comp x.comp).state ≠ .filling → reportFill l x n o u = u) := by
  unfold reportFill
  split
  · next hi =>
    split
    · exact ⟨((Touches.refl _ u).setComp _).raiseFilled, by simpa [raiseFilled] using CompartmentRecord.sound_filled hi _,
        by simp [raiseFilled], fun k => absurd hi k⟩
    · exact ⟨(Touches.refl _ u).setComp _, by simpa using CompartmentRecord.sound_unfilled hi, by simp, fun k => absurd hi k⟩
  · next hi => exact ⟨.refl _ u, id, fun k => absurd k hi, fun _ => rfl⟩

theorem endFill (h : Lawful s t) {l : Lane} (hl : (t.lane l).state = .settling) : Lawful s (endFill l t) := by
  unfold Machine.endFill
  dsimp only
  refine raiseNotice ?_ ..
  split
  · next x o hx ho =>
    obtain ⟨touched, sound, left, same⟩ := reportFill_touches l x (t.lane l).counter o t
    have lane : ∀ m, (reportFill l x (t.lane l).counter o t).lane m = t.lane m := fun m =>
      congrArg (fun v : Vector FillLane 2 => v[m]) touched.lanes
    refine h.trans ⟨ListsDistinct.congr touched.tankers, fun hp => ?_, fun hs j => ?_, fun hs => ?_,
      .congr touched.lines touched.inspections fun j => ?_,
      fun b => congrArg (fun v : Vector BayState 4 => v[b].twoHead) touched.bays⟩
    · show (reportFill l x _ o t).plant.priority.Perm _
      rw [touched.plant]; exact hp
    · show ((reportFill l x _ o t).comp j).sound = true
      by_cases hj : j = x.comp
      · subst hj; exact sound (hs _)
      · rw [touched.others j hj]; exact hs j
    · have filling := hs.2.2.1 l x hx
      refine LanesServe.unbind hx (by simp) (fun m hm => ?_) (left filling).1 touched.others hs
      rw [State.modLane_eq, State.lane_setLane_ne _ _ hm, lane]
    · show ((reportFill l x _ o t).comp j).state = .inspecting ↔ _
      by_cases hj : j = x.comp
      · subst hj
        by_cases hi : (t.comp x.comp).state = .filling
        · simp [(left hi).2, hi]
        · rw [same hi]
      · rw [touched.others j hj]
  · next hnone =>
    refine h.trans ⟨id, id, id, fun hs => ?_, id, fun _ => rfl⟩
    have cause := hs.2.1 l hl
    have context : (t.lane l).context ≠ none := fun e => by simpa [hl] using (hs.1 l).2 e
    obtain ⟨x, hx⟩ := Option.ne_none_iff_exists'.1 context
    obtain ⟨o, ho⟩ := Option.isSome_iff_exists.1 cause
    exact absurd ho (hnone x o hx)

theorem settleOut (h : Lawful s t) (l : Lane) : Lawful s (settleOut l t) := by
  unfold Machine.settleOut
  split
  · next hs => exact h.endFill hs.1
  · exact h

end Lawful

end Sys2Proof.Machine
end

section
/-! What the owner of a request can do to the state: it leaves it as it was, or the request has passed its checks and has its one effect.
One lemma for each owner that changes the state at all, with the checks that the effect rests on. -/

namespace Sys2Proof.Machine

open Sys2Proof (Byte Comp Tanker Bay Chan RecipeSlot CargoClass Line Lane Port)

/-! ## The names in requests (R3, R38, R76) -/

theorem nameComp_cases (n : Byte) (s : State) (k : Comp → CompartmentRecord → Taken) :
    (nameComp n s k).1 = s ∨ ∃ i, (s.comp i).state ≠ .free ∧ nameComp n s k = k i (s.comp i) := by
  unfold nameComp
  split
  · exact .inl rfl
  · next i _ => split <;> [exact .inl rfl; exact .inr ⟨i, ‹_›, rfl⟩]

theorem nameTanker_cases (n : Byte) (s : State) (k : Tanker → TankerData → Taken) :
    (nameTanker n s k).1 = s ∨ ∃ i x, s.tanker i = some x ∧ nameTanker n s k = k i x := by
  unfold nameTanker
  split
  · exact .inl rfl
  · next i _ => split <;> [exact .inl rfl; exact .inr ⟨i, _, ‹_›, rfl⟩]

theorem nameChannel_cases (p : Port) (n : Byte) (s : State) (k : Chan → Taken) :
    (nameChannel p n s k).1 = s ∨ ∃ c, (s.chan c).state ≠ .unfitted ∧ nameChannel p n s k = k c := by
  unfold nameChannel
  split
  · exact .inl rfl
  · next c _ =>
    split
    · exact .inl rfl
    · split <;> [exact .inl rfl; exact .inr ⟨c, ‹_›, rfl⟩]

theorem nameLine_cases (n : Byte) (s : State) (k : Line → Taken) : (nameLine n s k).1 = s ∨ ∃ l, nameLine n s k = k l := by
  unfold nameLine; split <;> [exact .inl rfl; exact .inr ⟨_, rfl⟩]

theorem nameLane_cases (n : Byte) (s : State) (k : Lane → Taken) : (nameLane n s k).1 = s ∨ ∃ l, nameLane n s k = k l := by
  unfold nameLane; split <;> [exact .inl rfl; exact .inr ⟨_, rfl⟩]

theorem whenOpen_cases (s : State) (x : Taken) : (whenOpen s x).1 = s ∨ s.yardOpen = true ∧ whenOpen s x = x := by
  unfold whenOpen; split <;> [exact .inr ⟨‹_›, rfl⟩; exact .inl rfl]

theorem class1?_ne_zero {n : Byte} {c : CargoClass} (h : class1? n = some c) : c ≠ 0 := (class1?_eq_some.1 h).1

/-! ## Compartment table (chapter 1) -/

theorem ownSetNextClass_effect (r : Request) (s : State) :
    (ownSetNextClass r s).1 = s
      ∨ ∃ (i : Comp) (c : CargoClass), (s.comp i).state = .booked ∧ c ≠ 0
          ∧ (ownSetNextClass r s).1 = queueInAlone i (s.modComp i fun y => { y with nextClass := some c }) := by
  unfold ownSetNextClass
  split
  · next n k _ =>
    rcases nameComp_cases n s _ with h | ⟨i, -, h⟩
    · exact .inl h
    · rw [h]
      split
      · exact .inl rfl
      · next c hc =>
        split
        · exact .inl rfl
        · next hs => split <;> [exact .inl rfl; exact .inr ⟨i, c, not_not.1 hs, class1?_ne_zero hc, rfl⟩]
  · exact .inl rfl

theorem ownDispose_effect (r : Request) (s : State) :
    (ownDispose r s).1 = s
      ∨ ∃ i : Comp, (s.comp i).state = .held
          ∧ ((ownDispose r s).1 = queueInAlone i (s.setComp i (disposed (s.comp i) .booked))
            ∨ (ownDispose r s).1 = s.setComp i (disposed (s.comp i) .inspectWait)) := by
  unfold ownDispose
  split
  · next n k _ =>
    rcases nameComp_cases n s _ with h | ⟨i, -, h⟩
    · exact .inl h
    · rw [h]
      split
      · exact .inl rfl
      · split
        · exact .inl rfl
        · next hs =>
          refine .inr ⟨i, not_not.1 hs, ?_⟩
          split <;> [exact .inl rfl; exact .inr rfl]
  · exact .inl rfl

theorem ownWithdraw_effect (r : Request) (s : State) :
    (ownWithdraw r s).1 = s
      ∨ ∃ i : Comp, mayWithdraw (s.comp i).state = true
          ∧ (ownWithdraw r s).1
              = s.setComp i { s.comp i with state := .withdrawn, cert := none, hold := none, plan := none } := by
  unfold ownWithdraw
  split
  · next n _ =>
    rcases nameComp_cases n s _ with h | ⟨i, -, h⟩
    · exact .inl h
    · rw [h]; split <;> [exact .inr ⟨i, ‹_›, rfl⟩; exact .inl rfl]
  · exact .inl rfl

theorem ownDepart_effect (r : Request) (s : State) :
    (ownDepart r s).1 = s
      ∨ ∃ (i : Tanker) (x : TankerData), s.tanker i = some x ∧ (∀ k ∈ x.compartments, holdsDeparture (s.comp k).state = false)
          ∧ s.departures.length + x.compartments.length ≤ Config.departureCapacity
          ∧ (ownDepart r s).1 = departTanker i x s := by
  unfold ownDepart
  split
  · next n _ =>
    rcases nameTanker_cases n s _ with h | ⟨i, x, hx, h⟩
    · exact .inl h
    · rw [h]
      split
      · exact .inl rfl
      · split
        · exact .inl rfl
        · next hh =>
          split
          · exact .inl rfl
          · next hd => exact .inr ⟨i, x, hx, by simpa using hh, Nat.le_of_not_lt hd, rfl⟩
  · exact .inl rfl

theorem ownTakeDeparture_effect (r : Request) (s : State) :
    (ownTakeDeparture r s).1 = s
      ∨ ∃ d ds, s.departures = d :: ds
          ∧ ((ownTakeDeparture r s).1 = { s with departures := ds }
            ∨ (ownTakeDeparture r s).1 = raiseDeparture { s with departures := ds }) := by
  unfold ownTakeDeparture
  split
  · split
    · exact .inl rfl
    · next d ds hd =>
      refine .inr ⟨d, ds, hd, ?_⟩
      dsimp only [accept]
      split <;> [exact .inl rfl; exact .inr rfl]
  · exact .inl rfl

/-! ## Configuration store (chapters 2 and 3, R185) -/

theorem ownWriteMatrixRow_effect (r : Request) (s : State) :
    (ownWriteMatrixRow r s).1 = s
      ∨ ∃ (row : CargoClass) (l : List Cell), l.length = 32 ∧ (∀ x ∈ l, namesEmptySlot s x = false)
          ∧ (ownWriteMatrixRow r s).1 = { s with matrix := put s.matrix row (rowOf l) } := by
  unfold ownWriteMatrixRow
  split
  · split
    · next row l _ _ =>
      split
      · exact .inl rfl
      · next hl =>
        split
        · exact .inl rfl
        · next he => exact .inr ⟨row, l, not_not.1 hl, by simpa using he, rfl⟩
    · exact .inl rfl
  · exact .inl rfl

theorem ownWriteLimits_effect (r : Request) (s : State) :
    (ownWriteLimits r s).1 = s ∨ ∃ v, (ownWriteLimits r s).1 = { s with limits := v } := by
  unfold ownWriteLimits
  split
  · split
    · dsimp only
      split <;> [exact .inr ⟨_, rfl⟩; exact .inl rfl]
    · exact .inl rfl
  · exact .inl rfl

theorem ownOpenYard_effect (r : Request) (s : State) :
    (ownOpenYard r s).1 = s ∨ (ownOpenYard r s).1 = { s with yardOpen := true } := by
  unfold ownOpenYard; split <;> [exact .inr rfl; exact .inl rfl]

theorem ownClearStaging_effect (r : Request) (s : State) :
    (ownClearStaging r s).1 = s ∨ (ownClearStaging r s).1 = { s with staging := Staging.empty } := by
  unfold ownClearStaging; split <;> [exact .inr rfl; exact .inl rfl]

theorem stepAllowed_of_step? {l : List Byte} {x : RecipeStep} (h : step? l = some x) : stepAllowed x = true := by
  unfold step? at h
  split at h
  · split at h
    · dsimp only at h
      split at h
      · next ha => rwa [← Option.some.inj h]
      · exact nomatch h
    · exact nomatch h
  · exact nomatch h

theorem ownWriteStagingStep_effect (r : Request) (s : State) :
    (ownWriteStagingStep r s).1 = s
      ∨ ∃ (i : Fin 12) (x : RecipeStep), stepAllowed x = true
          ∧ (ownWriteStagingStep r s).1 = { s with staging := s.staging.write i x } := by
  unfold ownWriteStagingStep
  split
  · split
    · next i x _ hx => exact .inr ⟨i, x, stepAllowed_of_step? hx, rfl⟩
    · exact .inl rfl
  · exact .inl rfl

theorem ownSetStagingRounds_effect (r : Request) (s : State) :
    (ownSetStagingRounds r s).1 = s
      ∨ ∃ n, (1 ≤ n ∧ n ≤ 4) ∧ (ownSetStagingRounds r s).1 = { s with staging := { s.staging with rounds := n } } := by
  unfold ownSetStagingRounds
  split
  · split <;> [exact .inr ⟨_, ‹_›, rfl⟩; exact .inl rfl]
  · exact .inl rfl

theorem ownLoadStaging_effect (r : Request) (s : State) :
    (ownLoadStaging r s).1 = s
      ∨ ∃ (i : RecipeSlot) (x : Recipe), s.recipe i = some x ∧ (ownLoadStaging r s).1 = { s with staging := Staging.load x } := by
  unfold ownLoadStaging
  split
  · split
    · exact .inl rfl
    · split <;> [exact .inl rfl; exact .inr ⟨_, _, ‹_›, rfl⟩]
  · exact .inl rfl

theorem ownCommitRecipe_effect (r : Request) (s : State) :
    (ownCommitRecipe r s).1 = s
      ∨ ∃ (i : RecipeSlot) (l : List RecipeStep), readAll id s.staging.used = some l ∧ s.staging.stepCount ≠ 0
          ∧ (ownCommitRecipe r s).1 = { s with recipes := put s.recipes i (some ⟨s.staging.rounds, l⟩) } := by
  unfold ownCommitRecipe
  split
  · split
    · exact .inl rfl
    · next i _ =>
      split
      · exact .inl rfl
      · next l hl =>
        split
        · exact .inl rfl
        · next hc => split <;> [exact .inl rfl; exact .inr ⟨i, l, hl, hc, rfl⟩]
  · exact .inl rfl

theorem ownEraseRecipe_effect (r : Request) (s : State) :
    (ownEraseRecipe r s).1 = s
      ∨ ∃ i : RecipeSlot, namedByMatrix s i = false ∧ (ownEraseRecipe r s).1 = { s with recipes := put s.recipes i none } := by
  unfold ownEraseRecipe
  split
  · split
    · exact .inl rfl
    · split
      · exact .inl rfl
      · split
        · exact .inl rfl
        · next hu =>
          rw [Bool.or_eq_true, not_or] at hu
          exact .inr ⟨_, Bool.eq_false_iff.2 hu.2, rfl⟩
  · exact .inl rfl

theorem ownSetYard_effect (r : Request) (s : State) :
    (ownSetYard r s).1 = s
      ∨ ∃ (x : Setting) (v : Nat), x.inRange v = true
          ∧ (ownSetYard r s).1 = { s with settings := put s.settings x.index v } := by
  unfold ownSetYard
  split
  · split
    · exact .inl rfl
    · split <;> [exact .inr ⟨_, _, ‹_›, rfl⟩; exact .inl rfl]
  · exact .inl rfl

/-! ## Bays (chapter 4) -/

theorem ownPark_effect (x : ReadingRequest) (s : State) :
    (ownPark x s).1 = s
      ∨ ∃ (b : Bay) (i : Tanker) (y : TankerData), s.tanker i = some y ∧ (ownPark x s).1 = parkTanker b i y x.between s := by
  unfold ownPark
  rcases whenOpen_cases s _ with h | ⟨-, h⟩
  · exact .inl h
  · rw [h]
    split
    · next b n _ _ =>
      rcases nameTanker_cases n s _ with h | ⟨i, y, hy, h⟩
      · exact .inl h
      · rw [h]
        repeat' split
        all_goals first
          | exact .inl rfl
          | exact .inr ⟨b, i, y, hy, rfl⟩
    · exact .inl rfl

theorem ownUnpark_effect (r : Request) (s : State) :
    (ownUnpark r s).1 = s
      ∨ ∃ (b : Bay) (i : Tanker) (x : TankerData), s.tanker i = some x ∧ (ownUnpark r s).1 = unparkTanker b i x s := by
  unfold ownUnpark
  split
  · next n _ =>
    rcases nameTanker_cases n s _ with h | ⟨i, x, hx, h⟩
    · exact .inl h
    · rw [h]
      repeat' split
      all_goals first
        | exact .inl rfl
        | exact .inr ⟨_, i, x, hx, rfl⟩
  · exact .inl rfl

theorem ownExpedite_effect (r : Request) (s : State) :
    (ownExpedite r s).1 = s
      ∨ ∃ i : Comp, (s.comp i).state = .queued
          ∧ ((ownExpedite r s).1 = s.modComp i (fun y => { y with expedite := true })
            ∨ ∃ (b : Bay) (f : BayState → BayState), (∀ y, (f y).twoHead = y.twoHead)
                ∧ (ownExpedite r s).1 = oweAttempt b ((s.modComp i fun y => { y with expedite := true }).modBay b f)) := by
  unfold ownExpedite
  split
  · next n _ =>
    rcases nameComp_cases n s _ with h | ⟨i, -, h⟩
    · exact .inl h
    · rw [h]
      split
      · exact .inl rfl
      · next hs =>
        refine .inr ⟨i, not_not.1 hs, ?_⟩
        dsimp only
        split <;> [exact .inl rfl; refine .inr ⟨_, _, ?_, rfl⟩]
        exact fun _ => rfl
  · exact .inl rfl

theorem ownRequestDispatch_effect (r : Request) (s : State) :
    (ownRequestDispatch r s).1 = s ∨ ∃ b, (ownRequestDispatch r s).1 = (dispatch b s).1 := by
  unfold ownRequestDispatch; split <;> [exact .inl rfl; exact .inr ⟨_, rfl⟩]

theorem ownCancelBinding_effect (r : Request) (s : State) :
    (ownCancelBinding r s).1 = s ∨ ∃ c, (ownCancelBinding r s).1 = giveBindingBack c s := by
  unfold ownCancelBinding
  split
  · next n _ =>
    rcases nameChannel_cases r.port n s _ with h | ⟨c, -, h⟩
    · exact .inl h
    · rw [h]
      dsimp only
      split <;> [exact .inr ⟨_, rfl⟩; exact .inl rfl]
  · exact .inl rfl

/-! ## Channels (chapter 5) -/

theorem ownStartRun_effect (r : Request) (s : State) :
    (ownStartRun r s).1 = s
      ∨ ∃ (c : Chan) (x : RecipeSlot) (n : Nat), (ownStartRun r s).1 = beginStep c 1 (setRun c x n s) := by
  unfold ownStartRun
  rcases whenOpen_cases s _ with h | ⟨-, h⟩
  · exact .inl h
  · rw [h]
    split
    · next n _ =>
      rcases nameChannel_cases r.port n s _ with h | ⟨c, -, h⟩
      · exact .inl h
      · rw [h]
        dsimp only
        repeat' split
        all_goals first
          | exact .inl rfl
          | exact .inr ⟨_, _, _, rfl⟩
    · exact .inl rfl

theorem ownStartRehearsal_effect (r : Request) (s : State) :
    (ownStartRehearsal r s).1 = s
      ∨ ∃ (c : Chan) (x : RecipeSlot), (ownStartRehearsal r s).1
          = beginStep c 1 (setRun c x 0 (s.modChan c fun y => { y with rehearsal := some x })) := by
  unfold ownStartRehearsal
  rcases whenOpen_cases s _ with h | ⟨-, h⟩
  · exact .inl h
  · rw [h]
    split
    · next n k _ =>
      rcases nameChannel_cases r.port n s _ with h | ⟨c, -, h⟩
      · exact .inl h
      · rw [h]
        repeat' split
        all_goals first
          | exact .inl rfl
          | exact .inr ⟨_, _, rfl⟩
    · exact .inl rfl

theorem ownAbortRun_effect (r : Request) (s : State) :
    (ownAbortRun r s).1 = s
      ∨ ∃ c, (ownAbortRun r s).1 = giveBindingBack c s ∨ ∃ l, (ownAbortRun r s).1 = stopRun c l s := by
  unfold ownAbortRun
  split
  · next n _ =>
    rcases nameChannel_cases r.port n s _ with h | ⟨c, -, h⟩
    · exact .inl h
    · rw [h]
      dsimp only
      split
      case h_1 => exact .inr ⟨_, .inl rfl⟩
      case h_2 => exact .inr ⟨_, .inr ⟨_, rfl⟩⟩
      case h_3 => exact .inr ⟨_, .inr ⟨_, rfl⟩⟩
      case h_4 => exact .inr ⟨_, .inr ⟨_, rfl⟩⟩
      all_goals exact .inl rfl
  · exact .inl rfl

theorem ownClearFault_effect (r : Request) (s : State) :
    (ownClearFault r s).1 = s ∨ ∃ c, (ownClearFault r s).1 = enterIdle c s := by
  unfold ownClearFault
  split
  · next n _ =>
    rcases nameChannel_cases r.port n s _ with h | ⟨c, -, h⟩
    · exact .inl h
    · rw [h]; split <;> [exact .inr ⟨_, rfl⟩; exact .inl rfl]
  · exact .inl rfl

theorem ownServiceEnter_effect (r : Request) (s : State) :
    (ownServiceEnter r s).1 = s ∨ ∃ c x, (ownServiceEnter r s).1 = s.setChan c x := by
  unfold ownServiceEnter
  split
  · next n _ =>
    rcases nameChannel_cases r.port n s _ with h | ⟨c, -, h⟩
    · exact .inl h
    · rw [h]; split <;> [exact .inr ⟨_, _, rfl⟩; exact .inl rfl]
  · exact .inl rfl

theorem ownServiceLatch_effect (r : Request) (s : State) :
    (ownServiceLatch r s).1 = s ∨ ∃ c x, (ownServiceLatch r s).1 = s.setChan c x := by
  unfold ownServiceLatch
  split
  · next n _ _ _ _ _ _ =>
    rcases nameChannel_cases r.port n s _ with h | ⟨c, -, h⟩
    · exact .inl h
    · rw [h]; split <;> [exact .inr ⟨_, _, rfl⟩; exact .inl rfl]
  · exact .inl rfl

theorem ownServiceClaim_effect (r : Request) (s : State) :
    (ownServiceClaim r s).1 = s ∨ ∃ c u, (ownServiceClaim r s).1 = lodgeClaim c .service u s := by
  unfold ownServiceClaim
  split
  · next n _ _ _ _ =>
    rcases nameChannel_cases r.port n s _ with h | ⟨c, -, h⟩
    · exact .inl h
    · rw [h]
      dsimp only
      repeat' split
      all_goals first
        | exact .inl rfl
        | exact .inr ⟨_, _, rfl⟩
  · exact .inl rfl

theorem ownServiceRelease_effect (r : Request) (s : State) :
    (ownServiceRelease r s).1 = s ∨ ∃ c, (ownServiceRelease r s).1 = giveBack c s := by
  unfold ownServiceRelease
  split
  · next n _ =>
    rcases nameChannel_cases r.port n s _ with h | ⟨c, -, h⟩
    · exact .inl h
    · rw [h]; split <;> [exact .inr ⟨_, rfl⟩; exact .inl rfl]
  · exact .inl rfl

theorem ownServiceExit_effect (r : Request) (s : State) :
    (ownServiceExit r s).1 = s ∨ ∃ c, (ownServiceExit r s).1 = giveBack c (enterIdle c s) := by
  unfold ownServiceExit
  split
  · next n _ =>
    rcases nameChannel_cases r.port n s _ with h | ⟨c, -, h⟩
    · exact .inl h
    · rw [h]; split <;> [exact .inr ⟨_, rfl⟩; exact .inl rfl]
  · exact .inl rfl

/-! ## Arbiter (chapter 6) -/

theorem ownSetHotCapacity_effect (r : Request) (s : State) :
    (ownSetHotCapacity r s).1 = s
      ∨ ∃ n, (1 ≤ n ∧ n ≤ 8) ∧ s.plant.granted.hot ≤ n ∧ (ownSetHotCapacity r s).1 = changeHotCapacity n s := by
  unfold ownSetHotCapacity
  split
  · next n _ =>
    split
    · exact .inl rfl
    · next hn =>
      split
      · exact .inl rfl
      · next hg => exact .inr ⟨n.toNat, not_not.1 hn, Nat.le_of_not_lt hg, rfl⟩
  · exact .inl rfl

theorem ownSetTokenAllowance_effect (r : Request) (s : State) :
    (ownSetTokenAllowance r s).1 = s
      ∨ ∃ (c : Chan) (n : Nat),
          (ownSetTokenAllowance r s).1 = s.setPlant { s.plant with tokens := put s.plant.tokens c ⟨n, n⟩ } := by
  unfold ownSetTokenAllowance
  split
  · split
    · exact .inl rfl
    · split <;> [exact .inl rfl; exact .inr ⟨_, _, rfl⟩]
  · exact .inl rfl

theorem ownSetPriorityScheme_effect (r : Request) (s : State) :
    (ownSetPriorityScheme r s).1 = s
      ∨ ∃ x, (ownSetPriorityScheme r s).1 = s.setPlant { s.plant with scheme := x, priority := Plant.startOrder } := by
  unfold ownSetPriorityScheme
  split
  · split
    · exact .inl rfl
    · split <;> [exact .inl rfl; exact .inr ⟨_, rfl⟩]
  · exact .inl rfl

/-! ## Inspections and fills (chapters 8 and 9) -/

theorem ownInspect_effect (r : Request) (s : State) :
    (ownInspect r s).1 = s
      ∨ ∃ (b : Bay) (l : Line) (i : Comp), (s.comp i).state = .inspectWait ∧ (s.line l).state = .docked
          ∧ (ownInspect r s).1 = startInspection b l i s := by
  unfold ownInspect
  rcases whenOpen_cases s _ with h | ⟨-, h⟩
  · exact .inl h
  · rw [h]
    split
    · next b _ _ _ _ =>
      split
      · next i l _ _ =>
        split
        · exact .inl rfl
        · split
          · exact .inl rfl
          · split
            · exact .inl rfl
            · next hi =>
              split
              · exact .inl rfl
              · split
                · exact .inl rfl
                · next hl => exact .inr ⟨b, l, i, not_not.1 hi, not_not.1 hl, rfl⟩
      · exact .inl rfl
    · exact .inl rfl

theorem ownCancelInspect_effect (r : Request) (s : State) :
    (ownCancelInspect r s).1 = s
      ∨ ∃ (l : Line) (x : Inspection), s.inspection l = some x
          ∧ (ownCancelInspect r s).1 = finishInspection l x .cancelled (reportNoJudgement x.comp (closeLine l none s)) := by
  unfold ownCancelInspect
  split
  · next n _ =>
    rcases nameLine_cases n s _ with h | ⟨l, h⟩
    · exact .inl h
    · rw [h]
      split
      · exact .inl rfl
      · next x hx => split <;> [exact .inl rfl; exact .inr ⟨l, x, hx, rfl⟩]
  · exact .inl rfl

theorem ownAuthorizeFill_effect (r : Request) (s : State) :
    (ownAuthorizeFill r s).1 = s
      ∨ ∃ (l : Lane) (x : FillContext), (s.lane l).state = .idle ∧ (s.comp x.comp).state = .cleared
          ∧ (ownAuthorizeFill r s).1 = authorize l x s := by
  unfold ownAuthorizeFill
  rcases whenOpen_cases s _ with h | ⟨-, h⟩
  · exact .inl h
  · rw [h]
    split
    · split
      · next l i p _ _ _ =>
        split
        · exact .inl rfl
        · next hl =>
          split
          · exact .inl rfl
          · split
            · exact .inl rfl
            · next hi =>
              have cleared : (s.comp i).state = .cleared := not_not.1 (not_or.1 hi).1
              repeat' split
              all_goals first
                | exact .inl rfl
                | exact .inr ⟨l, ⟨i, p, _⟩, not_not.1 hl, cleared, rfl⟩
      · exact .inl rfl
    · exact .inl rfl

theorem ownStopFill_effect (r : Request) (s : State) :
    (ownStopFill r s).1 = s ∨ ∃ l, (ownStopFill r s).1 = closeLane l .stopped s := by
  unfold ownStopFill
  split
  · next n _ =>
    rcases nameLane_cases n s _ with h | ⟨l, h⟩
    · exact .inl h
    · rw [h]; split <;> [exact .inr ⟨_, rfl⟩; exact .inl rfl]
  · exact .inl rfl

/-! ## Ports and resets (chapter 10) -/

theorem ownFetchNotice_effect (r : Request) (s : State) :
    (ownFetchNotice r s).1 = s
      ∨ ∃ n, (ownFetchNotice r s).1 = s.modPort r.port fun q => { q with flags := q.flags.filter fun x => decide (x ≠ n) } := by
  unfold ownFetchNotice
  split
  · split <;> [exact .inl rfl; exact .inr ⟨_, rfl⟩]
  · exact .inl rfl

theorem ownSetNoticeMask_effect (r : Request) (s : State) :
    (ownSetNoticeMask r s).1 = s
      ∨ ∃ (i : Fin 5) (m : Bool), (ownSetNoticeMask r s).1 = s.modPort r.port fun q => { q with masks := put q.masks i m } := by
  unfold ownSetNoticeMask
  split
  · split
    · split <;> [exact .inl rfl; exact .inr ⟨_, _, rfl⟩]
    · exact .inl rfl
  · exact .inl rfl

theorem ownPortStatus_effect (r : Request) (s : State) :
    (ownPortStatus r s).1 = s ∨ (ownPortStatus r s).1 = s.modPort r.port StationPort.clearCounters := by
  unfold ownPortStatus; split <;> [exact .inr rfl; exact .inl rfl]

theorem ownYardReset_effect (r : Request) (s : State) :
    (ownYardReset r s).1 = s ∨ (ownYardReset r s).1 = protectedReset s ∨ (ownYardReset r s).1 = unprotectedReset s := by
  unfold ownYardReset
  split
  · split
    · exact .inl rfl
    · exact .inr (.inl rfl)
    · exact .inr (.inr rfl)
  · exact .inl rfl

/-! ## The reads -/

/-- The requests that change no state of the part beyond their port. -/
def RequestKind.reads (k : RequestKind) : Bool :=
  match k with
  | .readCompartment | .readTanker | .readMatrixRow | .readLimits | .readStaging | .readRecipe | .readBay | .channelStatus
  | .readArbiter | .lineStatus | .readClock | .laneStatus | .readYard => true
  | _ => false

theorem owner_reads {k : RequestKind} (hk : k.reads = true) (r : Request) (s : State) : (k.owner r s).1 = s := by
  cases k
  case readCompartment => simp only [RequestKind.owner, ownReadCompartment]; split <;> [(split <;> rfl); rfl]
  case readTanker => simp only [RequestKind.owner, ownReadTanker]; split <;> [(split <;> rfl); rfl]
  case readMatrixRow => simp only [RequestKind.owner, ownReadMatrixRow]; split <;> [(split <;> rfl); rfl]
  case readLimits => simp only [RequestKind.owner, ownReadLimits]; split <;> [(split <;> rfl); rfl]
  case readStaging => simp only [RequestKind.owner, ownReadStaging]; split <;> rfl
  case readRecipe => simp only [RequestKind.owner, ownReadRecipe]; split <;> [(split <;> rfl); rfl]
  case readBay => simp only [RequestKind.owner, ownReadBay]; split <;> [(split <;> rfl); rfl]
  case channelStatus => simp only [RequestKind.owner, ownChannelStatus]; split <;> [(split <;> rfl); rfl]
  case readArbiter => simp only [RequestKind.owner, ownReadArbiter]; split <;> rfl
  case lineStatus => simp only [RequestKind.owner, ownLineStatus, nameLine]; split <;> [(split <;> rfl); rfl]
  case readClock => simp only [RequestKind.owner, ownReadClock]; split <;> rfl
  case laneStatus => simp only [RequestKind.owner, ownLaneStatus, nameLane]; split <;> [(split <;> rfl); rfl]
  case readYard => simp only [RequestKind.owner, ownReadYard]; split <;> [(split <;> rfl); rfl]
  all_goals exact absurd hk (by decide)

end Sys2Proof.Machine
end

section
/-! BOOK, PARK, UNPARK, DEPART and the resets keep the laws: what each makes of the records, the tanker register, the lanes and the lines. -/

namespace Sys2Proof.Machine

open Sys2Proof (Byte Comp Tanker Bay Chan RecipeSlot CargoClass Line Lane Port)

/-! ## Records changed one after the other -/

/-- A list of records, none named twice, is changed record by record, while `I` holds. -/
theorem comp_foldl {I : State → Prop} {f : State → Comp → State} {g : CompartmentRecord → CompartmentRecord}
    (hI : ∀ u i, I u → I (f u i)) (hf : ∀ u i j, I u → (f u i).comp j = if j = i then g (u.comp i) else u.comp j)
    {l : List Comp} (hl : l.Nodup) {s : State} (hs : I s) (j : Comp) :
    (l.foldl f s).comp j = if j ∈ l then g (s.comp j) else s.comp j := by
  induction l generalizing s with
  | nil => simp
  | cons i l ih =>
    obtain ⟨hi, hl⟩ := List.nodup_cons.1 hl
    rw [List.foldl_cons, ih hl (hI s i hs), hf s i j hs]
    by_cases hj : j = i
    · subst hj; simp [hi]
    · simp [hj]

/-- All records of the table changed in the same way. -/
theorem comp_foldl_all {I : State → Prop} {f : State → Comp → State} {g : CompartmentRecord → CompartmentRecord}
    (hI : ∀ u i, I u → I (f u i)) (hf : ∀ u i j, I u → (f u i).comp j = if j = i then g (u.comp i) else u.comp j)
    {s : State} (hs : I s) (j : Comp) : ((List.finRange 96).foldl f s).comp j = g (s.comp j) := by
  rw [comp_foldl hI hf (List.nodup_finRange 96) hs, if_pos (List.mem_finRange j)]

/-! ## What comes between two readings (R34) -/

/-- A state amid a request in which `P` holds, and all that is still to come keeps it. -/
structure Amid.Keeps (P : State → Prop) (x : Amid) : Prop where
  now : P x.1
  gaps : ∀ l ∈ x.2, ∀ e ∈ l, ∀ u, P u → P (takeBetween u e)

namespace Amid.Keeps

variable {P : State → Prop} {x : Amid}

theorem next (h : x.Keeps P) : x.next.Keeps P := by
  have gap : ∀ (l : List Between) (u : State), (∀ e ∈ l, ∀ v, P v → P (takeBetween v e)) → P u → P (l.foldl takeBetween u) := by
    intro l
    induction l with
    | nil => exact fun _ _ hu => hu
    | cons e l ih =>
      intro u he hu
      obtain ⟨first, rest⟩ := List.forall_mem_cons.1 he
      exact ih _ rest (first u hu)
  obtain ⟨s, gaps⟩ := x
  cases gaps with
  | nil => exact h
  | cons l gaps =>
    obtain ⟨first, rest⟩ := List.forall_mem_cons.1 h.gaps
    exact ⟨gap l s first h.now, rest⟩

theorem readBarred (h : x.Keeps P) (ds : List Description) : P (readBarred ds x).2 := by
  induction ds generalizing x with
  | nil => exact h.now
  | cons d ds ih =>
    unfold Machine.readBarred
    split
    · exact ih h
    · split <;> [exact h.next.now; exact ih h.next]

theorem queueInNext (h : x.Keeps P) (b : Bay) (i : Comp) (queued : ∀ u cell, P u → P (queueInOn cell b i u)) :
    (queueInNext b x i).Keeps P := by
  unfold Machine.queueInNext
  dsimp only
  split
  · exact h
  · split
    · split
      · exact ⟨queued _ _ h.next.next.now, h.next.next.gaps⟩
      · exact ⟨queued _ _ h.next.now, h.next.gaps⟩
    · exact h

theorem queueInAll (h : x.Keeps P) (b : Bay) (queued : ∀ i u cell, P u → P (queueInOn cell b i u)) (l : List Comp) :
    P (queueInAll b l x.2 x.1) := by
  unfold Machine.queueInAll
  suffices (l.foldl (Machine.queueInNext b) x).Keeps P from this.now
  induction l generalizing x with
  | nil => exact h
  | cons i l ih => exact ih (h.queueInNext b i (queued i))

end Amid.Keeps

/-! ## BOOK (R4, R5, R34) -/

theorem ownBook_effect (x : ReadingRequest) (s : State) :
    (ownBook x s).1 = s
      ∨ ∃ ds : List Description, (∀ d ∈ ds, ∀ c, d.nextClass = some c → c ≠ 0)
          ∧ ((ownBook x s).1 = (readBarred ds (s, x.between)).2
            ∨ ∃ fleet, (ownBook x s).1 = (bookTanker fleet ds (readBarred ds (s, x.between)).2).1) := by
  unfold ownBook
  rcases whenOpen_cases s _ with h | ⟨-, h⟩
  · exact .inl h
  · rw [h]
    split
    · exact .inl rfl
    · next fleet ds ha =>
      have inRange : ∀ d ∈ ds, ∀ c, d.nextClass = some c → c ≠ 0 := fun d hd c hc =>
        ((Description.inRange_iff d).1 ((bookArgs?_eq_some.1 ha).1.2.2.2.2 d hd)).2 c hc
      split
      · exact .inl rfl
      · refine .inr ⟨ds, inRange, ?_⟩
        dsimp only
        split <;> [exact .inl rfl; exact .inr ⟨fleet, rfl⟩]

theorem bookTanker_effect (fleet : Nat) (ds : List Description) (s : State) :
    (bookTanker fleet ds s).1 = s
      ∨ ∃ slot x, x.compartments = (freeComps s).take ds.length
          ∧ (bookTanker fleet ds s).1
              = (bookRecords slot 1 ((freeComps s).take ds.length) ds s).setTanker slot (some x) := by
  unfold bookTanker
  split
  · exact .inl rfl
  · next slot _ _ => split <;> [exact .inl rfl; exact .inr ⟨slot, _, rfl, rfl⟩]

theorem bookedRecord_sound (slot : Tanker) (k : Nat) {d : Description} (hd : ∀ c, d.nextClass = some c → c ≠ 0) :
    (bookedRecord slot k d).sound = true := by
  rw [CompartmentRecord.sound_iff (by simp [bookedRecord])]
  simp [bookedRecord, CompartmentRecord.freed, Lifecycle.certified, Lifecycle.classOptional]
  exact hd

namespace Lawful

variable {s t : State}

theorem takeBetween (h : Lawful s t) (e : Between) : Lawful s (takeBetween t e) := by
  obtain ⟨m, l, p, ht⟩ := takeBetween_fields t e
  rw [ht]
  exact h.trans (of_same rfl rfl rfl rfl rfl rfl rfl)

theorem readBarred (h : Lawful s t) (ds : List Description) (gaps : List (List Between)) :
    Lawful s (readBarred ds (t, gaps)).2 :=
  Amid.Keeps.readBarred (x := (t, gaps)) ⟨h, fun _ _ e _ _ hu => hu.takeBetween e⟩ ds

theorem bookRecords (h : Lawful s t) (slot : Tanker) (k : Nat) {is : List Comp} {ds : List Description}
    (hi : ∀ i ∈ is, (t.comp i).state ≠ .filling ∧ (t.comp i).state ≠ .inspecting)
    (hd : ∀ d ∈ ds, ∀ c, d.nextClass = some c → c ≠ 0) : Lawful s (bookRecords slot k is ds t) := by
  induction is generalizing t k ds with
  | nil => unfold Machine.bookRecords; exact h
  | cons i is ih =>
    cases ds with
    | nil => unfold Machine.bookRecords; exact h
    | cons d ds =>
      obtain ⟨hfst, hrest⟩ := List.forall_mem_cons.1 hi
      obtain ⟨hd, hds⟩ := List.forall_mem_cons.1 hd
      have booked : RecordMove (t.comp i) (bookedRecord slot k d) :=
        ⟨fun _ => bookedRecord_sound slot k hd, iff_of_false nofun hfst.1, iff_of_false nofun hfst.2⟩
      refine ih (h.setComp booked) (k + 1) (fun j hj => ?_) hds
      rw [State.comp_setComp]
      split <;> [exact ⟨nofun, nofun⟩; exact hrest j hj]

theorem bookTanker (h : Lawful s t) (fleet : Nat) {ds : List Description} (hd : ∀ d ∈ ds, ∀ c, d.nextClass = some c → c ≠ 0) :
    Lawful s (bookTanker fleet ds t).1 := by
  rcases bookTanker_effect fleet ds t with e | ⟨slot, x, hx, e⟩
  · rw [e]; exact h
  · rw [e]
    have free : ∀ i ∈ (freeComps t).take ds.length, (t.comp i).state = .free := fun i hi => by
      have := List.mem_of_mem_take hi
      simpa [freeComps] using this
    refine (h.bookRecords slot 1 (fun i hi => by simp [free i hi]) hd).setTanker fun _ d hd => ?_
    rw [← Option.some.inj hd, hx]
    exact (freeComps_nodup t).sublist (List.take_sublist ..)

theorem ownBook (h : Lawful s t) (x : ReadingRequest) : Lawful s (ownBook x t).1 := by
  rcases ownBook_effect x t with e | ⟨ds, hd, e | ⟨fleet, e⟩⟩ <;> rw [e]
  · exact h
  · exact h.readBarred ds _
  · exact (h.readBarred ds _).bookTanker fleet hd

/-! ## PARK, UNPARK and DEPART (R19, R60, R62) -/

theorem parkTanker (h : Lawful s t) (b : Bay) {i : Tanker} {x : TankerData} (hx : t.tanker i = some x)
    (gaps : List (List Between)) : Lawful s (parkTanker b i x gaps t) := by
  unfold Machine.parkTanker
  refine oweAttempt ?_ b
  refine queueInAll_keeps (Lawful s) (fun _ e hu => hu.takeBetween e) (fun u cell d k n hu hk hn => ?_) b _ gaps _ ?_
  · exact hu.queueInOn cell d hk (by simp [hn])
  · refine (h.setTanker fun hl d hd => ?_).modBay b _
    rw [← Option.some.inj hd]
    exact hl i x hx

theorem unparkTanker (h : Lawful s t) (b : Bay) {i : Tanker} {x : TankerData} (hx : t.tanker i = some x) :
    Lawful s (unparkTanker b i x t) := by
  have tankers : ∀ (l : List Comp) (u : State), (l.foldl Machine.unqueueRecord u).tankers = u.tankers := by
    intro l
    induction l with
    | nil => exact fun _ => rfl
    | cons k l ih =>
      intro u
      rw [List.foldl_cons, ih]
      unfold Machine.unqueueRecord
      split <;> rfl
  have unqueued : Lawful s (x.compartments.foldl Machine.unqueueRecord t) :=
    h.foldl _ (fun u k => (refl u).unqueueRecord k) _
  unfold Machine.unparkTanker
  refine (unqueued.setTanker fun hl d hd => ?_).modBay b _
  rw [← Option.some.inj hd]
  refine hl i x ?_
  rw [State.tanker, tankers]
  exact hx

theorem freeRecords (h : Lawful s t) {l : List Comp} (hl : ∀ k ∈ l, holdsDeparture (t.comp k).state = false) :
    Lawful s (l.foldl (fun u k => u.setComp k CompartmentRecord.freed) t) := by
  induction l generalizing t with
  | nil => exact h
  | cons k l ih =>
    obtain ⟨hk, hl⟩ := List.forall_mem_cons.1 hl
    have freed : RecordMove (t.comp k) CompartmentRecord.freed := by
      refine ⟨fun _ => CompartmentRecord.freed_sound, iff_of_false nofun fun e => ?_, iff_of_false nofun fun e => ?_⟩ <;>
        simp [e, holdsDeparture] at hk
    refine ih (h.setComp freed) fun j hj => ?_
    rw [State.comp_setComp]
    split <;> [rfl; exact hl j hj]

theorem departTanker (h : Lawful s t) (i : Tanker) {x : TankerData}
    (hx : ∀ k ∈ x.compartments, holdsDeparture (t.comp k).state = false) : Lawful s (departTanker i x t) := by
  unfold Machine.departTanker
  dsimp only
  refine raiseNotice (setTanker ?_ fun _ d hd => nomatch (hd : none = some d)) ..
  exact (h.freeRecords hx).trans (of_same rfl rfl rfl rfl rfl rfl rfl)

end Lawful

/-! ## The resets (R24 to R26, R143, R174) -/

/-- Lines that are out of session and unbound, and contexts that are absent, serve no record. -/
theorem linesServe_of_closed {s : State} (hl : ∀ l, (s.line l).state.inSession = false ∧ (s.line l).bound = none)
    (hx : ∀ l, s.inspection l = none) (hc : ∀ i, (s.comp i).state ≠ .inspecting) : LinesServe s :=
  ⟨fun l => by simp [hl l], fun l => by simp [hl l, hx l], fun l i h => by simp [hl l] at h, fun i h => absurd h (hc i),
    fun l m i h => by simp [hl l] at h⟩

/-- Idle lanes serve no record. -/
theorem lanesServe_of_idle {s : State} (hl : ∀ l, (s.lane l).state = .idle ∧ (s.lane l).context = none)
    (hc : ∀ i, (s.comp i).state ≠ .filling) : LanesServe s :=
  ⟨fun l => by simp [hl l], fun l h => by simp [hl l] at h, fun l x h => by simp [hl l] at h, fun i h => absurd h (hc i),
    fun l m x y h => by simp [hl l] at h⟩

@[simp] theorem line_resetBlocks (s : State) (l : Line) :
    (resetBlocks s).line l = (s.line l).afterYardReset (s.setting .powerOffTime) := by
  simp [resetBlocks, State.line]

@[simp] theorem inspection_resetBlocks (s : State) (l : Line) : (resetBlocks s).inspection l = none := by
  simp [resetBlocks, State.inspection]

@[simp] theorem bay_resetBlocks (s : State) (b : Bay) : (resetBlocks s).bay b = { s.bay b with owed := 0 } := by
  simp [resetBlocks, State.bay]

@[simp] theorem lane_resetLanes (s : State) (l : Lane) : (resetLanes s).lane l = (s.lane l).afterYardReset := by
  simp [resetLanes, State.lane]

@[simp] theorem comp_resetLanes (s : State) (i : Comp) : (resetLanes s).comp i = s.comp i := rfl

theorem ProbeLine.afterYardReset_inSession (x : ProbeLine) (off : Nat) :
    (x.afterYardReset off).state.inSession = false ∧ (x.afterYardReset off).bound = none := by
  refine ⟨?_, rfl⟩
  unfold ProbeLine.afterYardReset
  dsimp only
  split
  · rfl
  · next h => exact Bool.eq_false_iff.2 h

theorem FillLane.afterYardReset_idle {x : FillLane} (h : x.state = .idle → x.context = none) :
    x.afterYardReset.state = .idle ∧ x.afterYardReset.context = none := by
  unfold FillLane.afterYardReset
  split
  · next hs => exact ⟨hs, h hs⟩
  all_goals exact ⟨rfl, rfl⟩

/-- What a protected yard reset makes of a record in flight, those of the lanes aside (R25). -/
def interrupted (x : CompartmentRecord) : CompartmentRecord :=
  match x.state with
  | .washing => { x with state := .held, hold := some .interrupted, binding := none, cert := none }
  | .inspecting => { x with state := .inspectWait }
  | .free | .booked | .queued | .inspectWait | .cleared | .filling | .filled | .held | .withdrawn => x

theorem interrupted_other {x : CompartmentRecord} (h : x.state ≠ .washing) (k : x.state ≠ .inspecting) : interrupted x = x := by
  unfold interrupted
  split <;> [exact absurd ‹_› h; exact absurd ‹_› k; rfl; rfl; rfl; rfl; rfl; rfl; rfl; rfl; rfl]

theorem interrupted_inspecting (x : CompartmentRecord) : (interrupted x).state ≠ .inspecting := by
  unfold interrupted; split <;> simp_all

theorem interrupted_filling {x : CompartmentRecord} (h : (interrupted x).state = .filling) : x.state = .filling := by
  unfold interrupted at h; split at h <;> simp_all

theorem interrupted_sound {x : CompartmentRecord} (h : x.sound = true) : (interrupted x).sound = true := by
  by_cases hw : x.state = .washing
  · have e : interrupted x = { x with state := .held, hold := some .interrupted, binding := none, cert := none } := by
      simp [interrupted, hw]
    rw [e]
    exact (RecordMove.held (.inl hw) _).sound h
  · by_cases hi : x.state = .inspecting
    · have e : interrupted x = { x with state := .inspectWait } := by simp [interrupted, hi]
      rw [e]
      exact CompartmentRecord.sound_waiting hi (CompartmentRecord.tries_lt_three hi h) h
    · rwa [interrupted_other hw hi]

theorem comp_interruptRecord (s : State) (i j : Comp) :
    (interruptRecord s i).comp j = if j = i then interrupted (s.comp i) else s.comp j := by
  cases hi : (s.comp i).state <;>
    simp only [interruptRecord, interrupted, hi, holdRecord, raiseHeld, raiseNotice_eq, State.comp_setPort, State.modComp_eq,
      State.comp_setComp]
  all_goals (split <;> [(rename_i e; rw [e]); rfl])

theorem interruptRecord_fields (s : State) (i : Comp) :
    interruptRecord s i = { s with comps := (interruptRecord s i).comps, ports := (interruptRecord s i).ports } := by
  unfold interruptRecord
  split <;> rfl

theorem interruptRecords_fields (l : List Comp) (s : State) :
    l.foldl interruptRecord s
      = { s with comps := (l.foldl interruptRecord s).comps, ports := (l.foldl interruptRecord s).ports } := by
  induction l generalizing s with
  | nil => rfl
  | cons i l ih => rw [List.foldl_cons, ih, interruptRecord_fields]

theorem comp_interruptRecords (s : State) (j : Comp) :
    ((List.finRange 96).foldl interruptRecord s).comp j = interrupted (s.comp j) :=
  comp_foldl_all (I := fun _ => True) (fun _ _ _ => trivial) (fun u i j _ => comp_interruptRecord u i j) trivial j

theorem interruptFill_cases (s : State) (l : Lane) :
    (interruptFill s l = s ∧ ((s.lane l).state = .idle ∨ (s.lane l).context = none))
      ∨ ∃ x, (s.lane l).state ≠ .idle ∧ (s.lane l).context = some x
          ∧ interruptFill s l = reportFill l x (s.lane l).counter .interrupted s := by
  unfold interruptFill
  split
  · next x hs hx => exact .inr ⟨x, by simp [hs], hx, rfl⟩
  · next x hs hx => exact .inr ⟨x, by simp [hs], hx, rfl⟩
  · next ha hb =>
    refine .inl ⟨rfl, ?_⟩
    cases hs : (s.lane l).state with
    | idle => exact .inl rfl
    | active => cases hx : (s.lane l).context <;> [exact .inr rfl; exact absurd hx (ha _ hs)]
    | settling => cases hx : (s.lane l).context <;> [exact .inr rfl; exact absurd hx (hb _ hs)]

theorem reportFill_fields (l : Lane) (x : FillContext) (n : Nat) (o : FillOutcome) (s : State) :
    reportFill l x n o s = { s with comps := (reportFill l x n o s).comps, ports := (reportFill l x n o s).ports } := by
  unfold reportFill
  split <;> [(split <;> rfl); rfl]

theorem interruptFill_fields (s : State) (l : Lane) :
    interruptFill s l = { s with comps := (interruptFill s l).comps, ports := (interruptFill s l).ports } := by
  rcases interruptFill_cases s l with ⟨e, -⟩ | ⟨x, -, -, e⟩
  · rw [e]
  · rw [e]; exact reportFill_fields ..

/-- The report of an interrupted fill makes no record FILLING or INSPECTING, and keeps the records sound (R25). -/
theorem interruptFill_records (s : State) (l : Lane) (j : Comp) :
    (((interruptFill s l).comp j).state = .filling → (s.comp j).state = .filling)
      ∧ ((s.comp j).state ≠ .inspecting → ((interruptFill s l).comp j).state ≠ .inspecting)
      ∧ ((s.comp j).sound = true → ((interruptFill s l).comp j).sound = true) := by
  rcases interruptFill_cases s l with ⟨e, -⟩ | ⟨x, -, -, e⟩
  · rw [e]; exact ⟨id, id, id⟩
  · rw [e]
    obtain ⟨touched, sound, left, same⟩ := Lawful.reportFill_touches l x (s.lane l).counter .interrupted s
    by_cases hj : j = x.comp
    · subst hj
      by_cases hi : (s.comp x.comp).state = .filling
      · exact ⟨fun h => absurd h (left hi).1, fun _ => (left hi).2, sound⟩
      · rw [same hi]; exact ⟨id, id, id⟩
    · rw [touched.others j hj]; exact ⟨id, id, id⟩

/-- A record that a lane fills is not FILLING after the lane's report (R25, R174). -/
theorem interruptFill_left {s : State} {l : Lane} {x : FillContext} (hs : (s.lane l).state ≠ .idle)
    (hx : (s.lane l).context = some x) : ((interruptFill s l).comp x.comp).state ≠ .filling := by
  rcases interruptFill_cases s l with ⟨-, h | h⟩ | ⟨y, -, hy, e⟩
  · exact absurd h hs
  · simp [hx] at h
  · obtain rfl := Option.some.inj (hx.symm.trans hy)
    rw [e]
    obtain ⟨-, -, left, same⟩ := Lawful.reportFill_touches l x (s.lane l).counter .interrupted s
    by_cases hi : (s.comp x.comp).state = .filling
    · exact (left hi).1
    · rw [same hi]; exact hi

/-- The state of a protected yard reset before the lanes reset, from the blocks on (R25). -/
def State.interruptedFills (s : State) : State := interruptFill (interruptFill s 0) 1

theorem protectedReset_eq (s : State) :
    protectedReset s = resetLanes ((List.finRange 96).foldl interruptRecord (resetBlocks s)).interruptedFills := by
  have lanes : List.finRange 2 = [0, 1] := by decide
  simp only [protectedReset, lanes, List.foldl_cons, List.foldl_nil, State.interruptedFills]

theorem interruptedFills_fields (s : State) :
    s.interruptedFills = { s with comps := s.interruptedFills.comps, ports := s.interruptedFills.ports } := by
  unfold State.interruptedFills
  rw [interruptFill_fields (interruptFill s 0) 1, interruptFill_fields s 0]

theorem interruptedFills_records (s : State) (j : Comp) :
    ((s.interruptedFills.comp j).state = .filling → (s.comp j).state = .filling)
      ∧ ((s.comp j).state ≠ .inspecting → (s.interruptedFills.comp j).state ≠ .inspecting)
      ∧ ((s.comp j).sound = true → (s.interruptedFills.comp j).sound = true) := by
  obtain ⟨a, b, c⟩ := interruptFill_records s 0 j
  obtain ⟨d, e, f⟩ := interruptFill_records (interruptFill s 0) 1 j
  exact ⟨a ∘ d, e ∘ b, f ∘ c⟩

theorem lane_interruptFill (s : State) (l m : Lane) : (interruptFill s l).lane m = s.lane m := by
  rw [State.lane, interruptFill_fields]; rfl

theorem interruptedFills_left {s : State} {l : Lane} {x : FillContext} (hs : (s.lane l).state ≠ .idle)
    (hx : (s.lane l).context = some x) : (s.interruptedFills.comp x.comp).state ≠ .filling := by
  unfold State.interruptedFills
  match l with
  | 0 => exact fun h => interruptFill_left hs hx ((interruptFill_records _ 1 _).1 h)
  | 1 =>
    exact interruptFill_left (s := interruptFill s 0) (by rw [lane_interruptFill]; exact hs)
      (by rw [lane_interruptFill]; exact hx)

/-- The parts of the state that a protected yard reset gives from the blocks alone. -/
theorem protectedReset_fields (s : State) :
    protectedReset s
      = { resetLanes (resetBlocks s) with comps := (protectedReset s).comps, ports := (protectedReset s).ports } := by
  rw [protectedReset_eq, interruptedFills_fields, interruptRecords_fields]
  rfl

theorem comp_protectedReset (s : State) (i : Comp) :
    (protectedReset s).comp i
      = (((List.finRange 96).foldl interruptRecord (resetBlocks s)).interruptedFills).comp i := by
  rw [protectedReset_eq, comp_resetLanes]

theorem protectedReset_lawful (s : State) : Lawful s (protectedReset s) := by
  have comp : ∀ i, ((List.finRange 96).foldl interruptRecord (resetBlocks s)).comp i = interrupted (s.comp i) :=
    comp_interruptRecords _
  have lane : ∀ l, ((List.finRange 96).foldl interruptRecord (resetBlocks s)).lane l = s.lane l := fun l => by
    rw [State.lane, interruptRecords_fields]; rfl
  refine ⟨.congr (by rw [protectedReset_fields]; rfl), fun _ => ?_, fun h i => ?_, fun h => ?_, fun _ => ?_, fun b => ?_⟩
  · rw [PriorityComplete, protectedReset_fields]
    exact List.Perm.refl _
  · rw [comp_protectedReset]
    refine (interruptedFills_records _ i).2.2 ?_
    rw [comp]
    exact interrupted_sound (h i)
  · refine lanesServe_of_idle (fun l => ?_) fun i hi => ?_
    · rw [State.lane, protectedReset_fields]
      show ((resetLanes (resetBlocks s)).lane l).state = _ ∧ ((resetLanes (resetBlocks s)).lane l).context = _
      rw [lane_resetLanes]
      exact FillLane.afterYardReset_idle fun e => (h.1 l).1 e
    · rw [comp_protectedReset] at hi
      have before := (interruptedFills_records _ i).1 hi
      rw [comp] at before
      obtain ⟨l, x, hx, rfl⟩ := h.2.2.2.1 i (interrupted_filling before)
      have busy : (s.lane l).state ≠ .idle := fun e => by simp [(h.1 l).1 e] at hx
      exact interruptedFills_left (by rw [lane]; exact busy) (by rw [lane]; exact hx) hi
  · refine linesServe_of_closed (fun l => ?_) (fun l => ?_) fun i => ?_
    · rw [State.line, protectedReset_fields]
      show ((resetBlocks s).line l).state.inSession = _ ∧ ((resetBlocks s).line l).bound = _
      rw [line_resetBlocks]
      exact ProbeLine.afterYardReset_inSession ..
    · rw [State.inspection, protectedReset_fields]
      exact inspection_resetBlocks s l
    · rw [comp_protectedReset]
      refine (interruptedFills_records _ i).2.1 ?_
      rw [comp]
      exact interrupted_inspecting _
  · rw [State.bay, protectedReset_fields]
    have heads := congrArg BayState.twoHead (bay_resetBlocks s b)
    exact heads

theorem unprotectedReset_lawful (s : State) : Lawful s (unprotectedReset s) := by
  have comp : ∀ i, (unprotectedReset s).comp i = CompartmentRecord.freed := fun i => by
    simp [unprotectedReset, State.comp]
  refine ⟨fun _ i x h => ?_, fun _ => List.Perm.refl _, fun _ i => ?_, fun h => ?_, fun _ => ?_, fun b => ?_⟩
  · simp [unprotectedReset, State.tanker] at h
  · rw [comp]; exact CompartmentRecord.freed_sound
  · refine lanesServe_of_idle (fun l => ?_) fun i => by rw [comp]; nofun
    show ((resetLanes (resetBlocks s)).lane l).state = _ ∧ ((resetLanes (resetBlocks s)).lane l).context = _
    rw [lane_resetLanes]
    exact FillLane.afterYardReset_idle fun e => (h.1 l).1 e
  · refine linesServe_of_closed (fun l => ?_) (fun l => ?_) fun i => by rw [comp]; nofun
    · show ((resetBlocks s).line l).state.inSession = _ ∧ ((resetBlocks s).line l).bound = _
      rw [line_resetBlocks]
      exact ProbeLine.afterYardReset_inSession ..
    · exact inspection_resetBlocks s l
  · simp [unprotectedReset, resetLanes, resetBlocks, State.bay]

/-- The laws that `Lawful` speaks of hold after every power-on (R24, R143, R174). -/
theorem powerOn_laws (x : Straps) (permit : Bool) (headIn : Vector Bool 8) (pdock arm : Vector Bool 2) (pending : List Instr) :
    let t := State.powerOn x permit headIn pdock arm pending
    ListsDistinct t ∧ PriorityComplete t ∧ RecordsSound t ∧ LanesServe t ∧ LinesServe t := by
  intro t
  have comp : ∀ i, t.comp i = CompartmentRecord.freed := fun i => by simp [t, State.powerOn, State.comp]
  have lane : ∀ l, t.lane l = FillLane.powerOn arm[l] := fun l => by simp [t, State.powerOn, State.lane]
  have line : ∀ l, t.line l = ProbeLine.powerOn pdock[l] := fun l => by simp [t, State.powerOn, State.line]
  refine ⟨fun i y h => ?_, List.Perm.refl _, fun i => ?_, ?_, ?_⟩
  · simp [t, State.powerOn, State.tanker] at h
  · rw [comp]; exact CompartmentRecord.freed_sound
  · exact lanesServe_of_idle (fun l => by rw [lane]; exact ⟨rfl, rfl⟩) fun i => by rw [comp]; nofun
  · exact linesServe_of_closed (fun l => by rw [line]; exact ⟨rfl, rfl⟩) (fun l => by simp [t, State.powerOn, State.inspection])
      fun i => by rw [comp]; nofun

end Sys2Proof.Machine
end

section
/-! Every command keeps the laws of the records, the tanker register, the priority order, the lanes and the lines: each owner, each event,
and then all the commands of the table. -/

namespace Sys2Proof.Machine

open Sys2Proof (Byte Comp Tanker Bay Chan RecipeSlot CargoClass Line Lane Port)

/-! ## All the commands, the requests by their kind -/

/-- A property of commands shown for the requests of the catalogue by their kind, for BOOK and PARK with what comes between their
readings, and for each event. -/
structure ForEachCommand (P : Instr → Prop) : Prop where
  request : ∀ k r, P (request k r)
  book : ∀ x, P (.book x)
  park : ∀ x, P (.park x)
  dispatchAttempt : ∀ b, P (.dispatchAttempt b)
  badKindRequest : ∀ kind r, P (.badKindRequest kind r)
  powerOnReset : ∀ x, P (.powerOnReset x)
  frameDropped : ∀ p cause, P (.frameDropped p cause)
  gapTimeout : ∀ p, P (.gapTimeout p)
  frameOverrun : ∀ p, P (.frameOverrun p)
  answerSent : ∀ p, P (.answerSent p)
  secondTick : ∀ first, P (.secondTick first)
  minuteTick : P .minuteTick
  refresh : P .refresh
  passTimerExpiry : ∀ c, P (.passTimerExpiry c)
  runningTimeExpiry : ∀ c, P (.runningTimeExpiry c)
  flowMeterPulse : ∀ c, P (.flowMeterPulse c)
  guardExpiry : ∀ c, P (.guardExpiry c)
  dischargePermitDrop : ∀ d, P (.dischargePermitDrop d)
  dischargePermitReturn : P .dischargePermitReturn
  pauseLimitExpiry : ∀ c, P (.pauseLimitExpiry c)
  headInDrop : ∀ c, P (.headInDrop c)
  headInRise : ∀ c, P (.headInRise c)
  drainDownExpiry : ∀ c, P (.drainDownExpiry c)
  pdockChange : ∀ l level, P (.pdockChange l level)
  dockDebounceExpiry : ∀ l, P (.dockDebounceExpiry l)
  powerUpExpiry : ∀ l, P (.powerUpExpiry l)
  resetLengthExpiry : ∀ l, P (.resetLengthExpiry l)
  syncTimeout : ∀ l, P (.syncTimeout l)
  openLimitExpiry : ∀ l, P (.openLimitExpiry l)
  probeCharacterReceived : ∀ l ch, P (.probeCharacterReceived l ch)
  openingReply : ∀ l, P (.openingReply l)
  blockSendStart : ∀ l, P (.blockSendStart l)
  characterSent : ∀ l e, P (.characterSent l e)
  blockWaitExpiry : ∀ l, P (.blockWaitExpiry l)
  charWaitExpiry : ∀ l, P (.charWaitExpiry l)
  blockReceived : ∀ l, P (.blockReceived l)
  offTimerExpiry : ∀ l, P (.offTimerExpiry l)
  laneMeterPulse : ∀ l, P (.laneMeterPulse l)
  noFlowExpiry : ∀ l, P (.noFlowExpiry l)
  armDrop : ∀ l, P (.armDrop l)
  armRise : ∀ l, P (.armRise l)
  settleExpiry : ∀ l, P (.settleExpiry l)
  portCharacterReceived : ∀ p ch, P (.portCharacterReceived p ch)
  resetPinAsserted : P .resetPinAsserted

theorem ForEachCommand.all {P : Instr → Prop} (h : ForEachCommand P) (c : Instr) : P c := by
  cases c with
  | book x => exact h.book x
  | park x => exact h.park x
  | setNextClass r => exact h.request .setNextClass r
  | dispose r => exact h.request .dispose r
  | withdraw r => exact h.request .withdraw r
  | depart r => exact h.request .depart r
  | takeDeparture r => exact h.request .takeDeparture r
  | readCompartment r => exact h.request .readCompartment r
  | readTanker r => exact h.request .readTanker r
  | writeMatrixRow r => exact h.request .writeMatrixRow r
  | readMatrixRow r => exact h.request .readMatrixRow r
  | writeLimits r => exact h.request .writeLimits r
  | readLimits r => exact h.request .readLimits r
  | openYard r => exact h.request .openYard r
  | clearStaging r => exact h.request .clearStaging r
  | writeStagingStep r => exact h.request .writeStagingStep r
  | setStagingRounds r => exact h.request .setStagingRounds r
  | loadStaging r => exact h.request .loadStaging r
  | readStaging r => exact h.request .readStaging r
  | commitRecipe r => exact h.request .commitRecipe r
  | eraseRecipe r => exact h.request .eraseRecipe r
  | readRecipe r => exact h.request .readRecipe r
  | unpark r => exact h.request .unpark r
  | expedite r => exact h.request .expedite r
  | requestDispatch r => exact h.request .requestDispatch r
  | cancelBinding r => exact h.request .cancelBinding r
  | readBay r => exact h.request .readBay r
  | startRun r => exact h.request .startRun r
  | startRehearsal r => exact h.request .startRehearsal r
  | abortRun r => exact h.request .abortRun r
  | clearFault r => exact h.request .clearFault r
  | serviceEnter r => exact h.request .serviceEnter r
  | serviceLatch r => exact h.request .serviceLatch r
  | serviceClaim r => exact h.request .serviceClaim r
  | serviceRelease r => exact h.request .serviceRelease r
  | serviceExit r => exact h.request .serviceExit r
  | channelStatus r => exact h.request .channelStatus r
  | setHotCapacity r => exact h.request .setHotCapacity r
  | setTokenAllowance r => exact h.request .setTokenAllowance r
  | setPriorityScheme r => exact h.request .setPriorityScheme r
  | readArbiter r => exact h.request .readArbiter r
  | lineStatus r => exact h.request .lineStatus r
  | inspect r => exact h.request .inspect r
  | cancelInspect r => exact h.request .cancelInspect r
  | readClock r => exact h.request .readClock r
  | authorizeFill r => exact h.request .authorizeFill r
  | stopFill r => exact h.request .stopFill r
  | laneStatus r => exact h.request .laneStatus r
  | fetchNotice r => exact h.request .fetchNotice r
  | setNoticeMask r => exact h.request .setNoticeMask r
  | portStatus r => exact h.request .portStatus r
  | setYard r => exact h.request .setYard r
  | readYard r => exact h.request .readYard r
  | yardReset r => exact h.request .yardReset r
  | dispatchAttempt b => exact h.dispatchAttempt b
  | badKindRequest kind r => exact h.badKindRequest kind r
  | powerOnReset x => exact h.powerOnReset x
  | frameDropped p cause => exact h.frameDropped p cause
  | gapTimeout p => exact h.gapTimeout p
  | frameOverrun p => exact h.frameOverrun p
  | answerSent p => exact h.answerSent p
  | secondTick first => exact h.secondTick first
  | minuteTick => exact h.minuteTick
  | refresh => exact h.refresh
  | passTimerExpiry c => exact h.passTimerExpiry c
  | runningTimeExpiry c => exact h.runningTimeExpiry c
  | flowMeterPulse c => exact h.flowMeterPulse c
  | guardExpiry c => exact h.guardExpiry c
  | dischargePermitDrop d => exact h.dischargePermitDrop d
  | dischargePermitReturn => exact h.dischargePermitReturn
  | pauseLimitExpiry c => exact h.pauseLimitExpiry c
  | headInDrop c => exact h.headInDrop c
  | headInRise c => exact h.headInRise c
  | drainDownExpiry c => exact h.drainDownExpiry c
  | pdockChange l level => exact h.pdockChange l level
  | dockDebounceExpiry l => exact h.dockDebounceExpiry l
  | powerUpExpiry l => exact h.powerUpExpiry l
  | resetLengthExpiry l => exact h.resetLengthExpiry l
  | syncTimeout l => exact h.syncTimeout l
  | openLimitExpiry l => exact h.openLimitExpiry l
  | probeCharacterReceived l ch => exact h.probeCharacterReceived l ch
  | openingReply l => exact h.openingReply l
  | blockSendStart l => exact h.blockSendStart l
  | characterSent l e => exact h.characterSent l e
  | blockWaitExpiry l => exact h.blockWaitExpiry l
  | charWaitExpiry l => exact h.charWaitExpiry l
  | blockReceived l => exact h.blockReceived l
  | offTimerExpiry l => exact h.offTimerExpiry l
  | laneMeterPulse l => exact h.laneMeterPulse l
  | noFlowExpiry l => exact h.noFlowExpiry l
  | armDrop l => exact h.armDrop l
  | armRise l => exact h.armRise l
  | settleExpiry l => exact h.settleExpiry l
  | portCharacterReceived p ch => exact h.portCharacterReceived p ch
  | resetPinAsserted => exact h.resetPinAsserted

/-! ## Events and requests taken -/

/-- An event leaves a part held in reset as it is, and has its effect on any other (R176). -/
theorem live_next {s t : State} {f : State → State} (h : live s f = .next t) :
    t = if s.resetPin = true then s else f s := by
  unfold live at h
  exact (Host.Outcome.next.inj h).symm

/-- What holds before and after an event's effect holds after the event. -/
theorem live_keeps {P : State → Prop} {s t : State} {f : State → State} (h : live s f = .next t) (hs : P s) (hf : P (f s)) : P t := by
  rw [live_next h]
  split <;> assumption

/-- What the port's framing keeps and the owner keeps is kept by a request served (R178, R179). -/
theorem serve_keeps {P : State → Prop} {kind : Byte} {r : Request} {owner : State → Taken} {s : State}
    (hold : P (holdTaken kind r s)) (owned : P (holdTaken kind r s) → P (owner (holdTaken kind r s)).1)
    (answer : ∀ u a, P u → P (u.modPort r.port fun q => { q with answer := some a }))
    (overrun : P (s.modPort r.port StationPort.overrun)) : P (serve kind r owner s) := by
  unfold serve
  split
  · exact answer _ _ (owned hold)
  · exact overrun

/-- A request's owner, with the check of the port's role before it, does no more than the owner (R179). -/
theorem permitted_keeps {P : State → Prop} {k : RequestKind} {r : Request} {owner : State → Taken} {s : State} (hs : P s)
    (h : P (owner s).1) : P (if k.permitted r.port then owner s else refuse .notPermitted s).1 := by
  split <;> assumption

namespace Lawful

variable {s t : State}

theorem serve (kind : Byte) (r : Request) {owner : State → Taken} (ho : ∀ u, Lawful u (owner u).1) (h : Lawful s t) :
    Lawful s (serve kind r owner t) :=
  serve_keeps (P := Lawful s) (h.setPort _ _) (fun hu => hu.trans (ho _)) (fun _ _ hu => hu.setPort _ _) (h.setPort _ _)

theorem takeRequest {k : RequestKind} {r : Request} {owner : State → Taken} (ho : ∀ u, Lawful u (owner u).1)
    (h : takeRequest k r owner s = .next t) : Lawful s t :=
  live_keeps (P := Lawful s) h (refl s) (serve _ _ (fun u => permitted_keeps (P := Lawful u) (refl u) (ho u)) (refl s))

theorem takeOwnStatus (p : Port) (before : State) (h : Lawful s t) : Lawful s (takeOwnStatus p before t) := by
  have status : ∀ (r : Request) (u : State), Lawful u (ownPortStatus r u).1 := fun r u => by
    rcases ownPortStatus_effect r u with e | e <;> rw [e] <;> [exact refl u; exact (refl u).setPort _ _]
  unfold Machine.takeOwnStatus
  split
  · split <;> [exact h.serve _ _ (status _); exact h]
  · exact h

/-! ## Owners -/

theorem owner (k : RequestKind) (r : Request) (s : State) : Lawful s (k.owner r s).1 := by
  cases hk : k.reads with
  | true => rw [owner_reads hk]; exact refl s
  | false =>
    cases k with
    | book => exact (refl s).ownBook ⟨r, []⟩
    | setNextClass =>
      rcases ownSetNextClass_effect r s with e | ⟨i, c, hi, hc, e⟩ <;> rw [RequestKind.owner, e]
      · exact refl s
      · exact ((refl s).modComp (.classed hi (by rintro _ ⟨⟩; exact hc))).queueInAlone (by simp [hi])
    | dispose =>
      rcases ownDispose_effect r s with e | ⟨i, hi, e | e⟩ <;> rw [RequestKind.owner, e]
      · exact refl s
      · exact ((refl s).setComp (.disposed hi (.inl rfl))).queueInAlone (by simp [disposed])
      · exact (refl s).setComp (.disposed hi (.inr rfl))
    | withdraw =>
      rcases ownWithdraw_effect r s with e | ⟨i, hi, e⟩ <;> rw [RequestKind.owner, e]
      · exact refl s
      · exact (refl s).setComp (.withdrawn hi)
    | depart =>
      rcases ownDepart_effect r s with e | ⟨i, x, -, hx, -, e⟩ <;> rw [RequestKind.owner, e]
      · exact refl s
      · exact (refl s).departTanker i hx
    | takeDeparture =>
      rcases ownTakeDeparture_effect r s with e | ⟨d, ds, -, e | e⟩ <;> rw [RequestKind.owner, e]
      · exact refl s
      · exact of_same rfl rfl rfl rfl rfl rfl rfl
      · exact of_same rfl rfl rfl rfl rfl rfl rfl
    | writeMatrixRow =>
      rcases ownWriteMatrixRow_effect r s with e | ⟨_, _, -, -, e⟩ <;> rw [RequestKind.owner, e] <;>
        exact of_same rfl rfl rfl rfl rfl rfl rfl
    | writeLimits =>
      rcases ownWriteLimits_effect r s with e | ⟨_, e⟩ <;> rw [RequestKind.owner, e] <;> exact of_same rfl rfl rfl rfl rfl rfl rfl
    | openYard =>
      rcases ownOpenYard_effect r s with e | e <;> rw [RequestKind.owner, e] <;> exact of_same rfl rfl rfl rfl rfl rfl rfl
    | clearStaging =>
      rcases ownClearStaging_effect r s with e | e <;> rw [RequestKind.owner, e] <;> exact of_same rfl rfl rfl rfl rfl rfl rfl
    | writeStagingStep =>
      rcases ownWriteStagingStep_effect r s with e | ⟨_, _, -, e⟩ <;> rw [RequestKind.owner, e] <;>
        exact of_same rfl rfl rfl rfl rfl rfl rfl
    | setStagingRounds =>
      rcases ownSetStagingRounds_effect r s with e | ⟨_, -, e⟩ <;> rw [RequestKind.owner, e] <;>
        exact of_same rfl rfl rfl rfl rfl rfl rfl
    | loadStaging =>
      rcases ownLoadStaging_effect r s with e | ⟨_, _, -, e⟩ <;> rw [RequestKind.owner, e] <;>
        exact of_same rfl rfl rfl rfl rfl rfl rfl
    | commitRecipe =>
      rcases ownCommitRecipe_effect r s with e | ⟨_, _, -, -, e⟩ <;> rw [RequestKind.owner, e] <;>
        exact of_same rfl rfl rfl rfl rfl rfl rfl
    | eraseRecipe =>
      rcases ownEraseRecipe_effect r s with e | ⟨_, -, e⟩ <;> rw [RequestKind.owner, e] <;>
        exact of_same rfl rfl rfl rfl rfl rfl rfl
    | setYard =>
      rcases ownSetYard_effect r s with e | ⟨_, _, -, e⟩ <;> rw [RequestKind.owner, e] <;>
        exact of_same rfl rfl rfl rfl rfl rfl rfl
    | park =>
      rcases ownPark_effect ⟨r, []⟩ s with e | ⟨b, i, x, hx, e⟩ <;> rw [RequestKind.owner, e]
      · exact refl s
      · exact (refl s).parkTanker b hx _
    | unpark =>
      rcases ownUnpark_effect r s with e | ⟨b, i, x, hx, e⟩ <;> rw [RequestKind.owner, e]
      · exact refl s
      · exact (refl s).unparkTanker b hx
    | expedite =>
      rcases ownExpedite_effect r s with e | ⟨i, hi, e | ⟨b, f, hf, e⟩⟩ <;> rw [RequestKind.owner, e]
      · exact refl s
      · exact (refl s).modComp (.expedited hi)
      · exact (((refl s).modComp (.expedited hi)).modBay b f hf).oweAttempt b
    | requestDispatch =>
      rcases ownRequestDispatch_effect r s with e | ⟨b, e⟩ <;> rw [RequestKind.owner, e]
      · exact refl s
      · exact (refl s).dispatch b
    | cancelBinding =>
      rcases ownCancelBinding_effect r s with e | ⟨c, e⟩ <;> rw [RequestKind.owner, e]
      · exact refl s
      · exact (refl s).giveBindingBack c
    | startRun =>
      rcases ownStartRun_effect r s with e | ⟨c, x, n, e⟩ <;> rw [RequestKind.owner, e]
      · exact refl s
      · exact ((refl s).setRun c x n).beginStep c 1
    | startRehearsal =>
      rcases ownStartRehearsal_effect r s with e | ⟨c, x, e⟩ <;> rw [RequestKind.owner, e]
      · exact refl s
      · exact (((refl s).modChan c _).setRun c x 0).beginStep c 1
    | abortRun =>
      rcases ownAbortRun_effect r s with e | ⟨c, e | ⟨l, e⟩⟩ <;> rw [RequestKind.owner, e]
      · exact refl s
      · exact (refl s).giveBindingBack c
      · exact (refl s).stopRun c l
    | clearFault =>
      rcases ownClearFault_effect r s with e | ⟨c, e⟩ <;> rw [RequestKind.owner, e]
      · exact refl s
      · exact (refl s).enterIdle c
    | serviceEnter =>
      rcases ownServiceEnter_effect r s with e | ⟨c, x, e⟩ <;> rw [RequestKind.owner, e]
      · exact refl s
      · exact (refl s).setChan c x
    | serviceLatch =>
      rcases ownServiceLatch_effect r s with e | ⟨c, x, e⟩ <;> rw [RequestKind.owner, e]
      · exact refl s
      · exact (refl s).setChan c x
    | serviceClaim =>
      rcases ownServiceClaim_effect r s with e | ⟨c, u, e⟩ <;> rw [RequestKind.owner, e]
      · exact refl s
      · exact (refl s).lodgeClaim c _ u
    | serviceRelease =>
      rcases ownServiceRelease_effect r s with e | ⟨c, e⟩ <;> rw [RequestKind.owner, e]
      · exact refl s
      · exact (refl s).giveBack c
    | serviceExit =>
      rcases ownServiceExit_effect r s with e | ⟨c, e⟩ <;> rw [RequestKind.owner, e]
      · exact refl s
      · exact ((refl s).enterIdle c).giveBack c
    | setHotCapacity =>
      rcases ownSetHotCapacity_effect r s with e | ⟨n, -, -, e⟩ <;> rw [RequestKind.owner, e]
      · exact refl s
      · exact (refl s).changeHotCapacity n
    | setTokenAllowance =>
      rcases ownSetTokenAllowance_effect r s with e | ⟨c, n, e⟩ <;> rw [RequestKind.owner, e]
      · exact refl s
      · exact (refl s).setPlant id
    | setPriorityScheme =>
      rcases ownSetPriorityScheme_effect r s with e | ⟨x, e⟩ <;> rw [RequestKind.owner, e]
      · exact refl s
      · exact (refl s).setPlant fun _ => List.Perm.refl _
    | inspect =>
      rcases ownInspect_effect r s with e | ⟨b, l, i, hi, hl, e⟩ <;> rw [RequestKind.owner, e]
      · exact refl s
      · exact (refl s).startInspection b hi hl
    | cancelInspect =>
      rcases ownCancelInspect_effect r s with e | ⟨l, x, hx, e⟩ <;> rw [RequestKind.owner, e]
      · exact refl s
      · exact (refl s).inspectionEnds (by rw [hx]; rfl) _ _ (Judged.reportNoJudgement x.comp)
    | authorizeFill =>
      rcases ownAuthorizeFill_effect r s with e | ⟨l, x, hl, hi, e⟩ <;> rw [RequestKind.owner, e]
      · exact refl s
      · exact (refl s).authorize hl hi
    | stopFill =>
      rcases ownStopFill_effect r s with e | ⟨l, e⟩ <;> rw [RequestKind.owner, e]
      · exact refl s
      · exact (refl s).closeLane l _
    | fetchNotice =>
      rcases ownFetchNotice_effect r s with e | ⟨n, e⟩ <;> rw [RequestKind.owner, e]
      · exact refl s
      · exact (refl s).setPort _ _
    | setNoticeMask =>
      rcases ownSetNoticeMask_effect r s with e | ⟨i, m, e⟩ <;> rw [RequestKind.owner, e]
      · exact refl s
      · exact (refl s).setPort _ _
    | portStatus =>
      rcases ownPortStatus_effect r s with e | e <;> rw [RequestKind.owner, e]
      · exact refl s
      · exact (refl s).setPort _ _
    | yardReset =>
      rcases ownYardReset_effect r s with e | e | e <;> rw [RequestKind.owner, e]
      · exact refl s
      · exact protectedReset_lawful s
      · exact unprotectedReset_lawful s
    | _ => exact nomatch hk

/-! ## Ticks (R108, R109, R154) -/

theorem takeMinute (h : Lawful s t) : Lawful s (takeMinute t) := by
  have ticked : Lawful s { t with
      clock := { t.clock with second := 0, minute := (t.clock.minute + 1) % Config.minuteModulus, minuteDue := false } } :=
    h.trans (of_same rfl rfl rfl rfl rfl rfl rfl)
  unfold Machine.takeMinute
  generalize List.finRange 96 = l
  exact ticked.foldl _ (fun u i => (refl u).examineExpiry i) l

theorem takeRefresh (h : Lawful s t) : Lawful s (takeRefresh t) := by
  unfold Machine.takeRefresh
  exact (h.setPlant (p := t.plant.refreshTokens) id).arbitrate

theorem tickLane_move (s : State) (l : Lane) : LaneMove (s.lane l) (tickLane s l) := by
  unfold tickLane
  dsimp only
  split
  · exact ⟨rfl, Iff.rfl, id⟩
  · exact ⟨rfl, Iff.rfl, id⟩
  · exact ⟨rfl, Iff.rfl, id⟩

theorem countSecond (s : State) : Lawful s (countSecond s) := by
  have lane : ∀ l, (Machine.countSecond s).lane l = tickLane s l := fun l => by simp [Machine.countSecond, State.lane]
  refine ⟨id, id, id, ?_, id, fun _ => rfl⟩
  rintro ⟨idle, cause, filling, served, once⟩
  have context : ∀ l, ((Machine.countSecond s).lane l).context = (s.lane l).context := fun l => by
    rw [lane]; exact (tickLane_move s l).context
  refine ⟨fun l => ?_, fun l => ?_, ?_, ?_, ?_⟩
  · rw [context, lane]; exact (tickLane_move s l).idle.trans (idle l)
  · rw [lane]; exact (tickLane_move s l).cause (cause l)
  · simp only [context]; exact filling
  · simp only [context]; exact served
  · simp only [context]; exact once

theorem takeSecond (first : Bool) (s : State) : Lawful s (takeSecond first s) := by
  have minute : Lawful s (if s.clock.minuteDue then Machine.takeMinute s else s) := by
    split <;> [exact (refl s).takeMinute; exact refl s]
  unfold Machine.takeSecond
  dsimp only
  generalize (if s.clock.minuteDue then Machine.takeMinute s else s) = s0 at minute ⊢
  have counted := minute.trans (countSecond s0)
  have refreshed : Lawful s (if (first && (Machine.countSecond s0).plant.refreshDue) = true then
      Machine.takeRefresh (Machine.countSecond s0) else Machine.countSecond s0) := by
    split <;> [exact counted.takeRefresh; exact counted]
  exact refreshed.trans (of_same rfl rfl rfl rfl rfl rfl rfl)

/-! ## All the commands -/

theorem live {f : State → State} (h : live s f = .next t) (hf : Lawful s (f s)) : Lawful s t :=
  live_keeps (P := Lawful s) h (refl s) hf

/-- An event that a part held in reset follows in a level alone. -/
theorem next {b : Bool} {u v : State} (h : (Host.Outcome.next (if b then u else v) : Result) = .next t) (hu : Lawful s u)
    (hv : Lawful s v) : Lawful s t := by
  rw [← Host.Outcome.next.inj h]
  split <;> assumption

theorem forEachCommand (s t : State) :
    ForEachCommand fun c => (∀ x, c ≠ .powerOnReset x) → exec c s = .next t → Lawful s t where
  request k r _ h := takeRequest (owner k r) ((request_exec k r s).symm.trans h)
  book x _ h := takeRequest (k := .book) (fun u => (refl u).ownBook x) h
  park x _ h := by
    refine takeRequest (k := .park) (fun u => ?_) h
    rcases ownPark_effect x u with e | ⟨b, i, y, hy, e⟩ <;> rw [e]
    · exact refl u
    · exact (refl u).parkTanker b hy _
  dispatchAttempt b _ h := live h ((refl s).dispatchOwed b)
  badKindRequest kind r _ h := by
    refine live (f := fun u => if namesNoRequest kind then Machine.serve kind r (refuse .badKind) u else
      Machine.takeOwnStatus r.port u (u.modPort r.port fun q => q.complete kind r.tag r.payload)) h ?_
    split
    · exact (refl s).serve _ _ fun u => refl u
    · exact takeOwnStatus _ _ ((refl s).setPort _ _)
  powerOnReset x hx _ := absurd rfl (hx x)
  frameDropped p cause _ h := live (f := fun u => u.modPort p fun q => q.drop cause) h ((refl s).setPort _ _)
  gapTimeout p _ h := live (f := fun u => u.modPort p fun q => q.gapOut) h ((refl s).setPort _ _)
  frameOverrun p _ h := live (f := fun u => u.modPort p fun q => q.overrunHeld) h ((refl s).setPort _ _)
  answerSent p _ h := live (f := fun u => u.modPort p fun q => q.sent) h ((refl s).setPort _ _)
  secondTick first _ h := live h (takeSecond first s)
  minuteTick _ h := by
    refine live h ?_
    unfold minuteOut
    split <;> [exact (refl s).takeMinute; exact refl s]
  refresh _ h := by
    refine live h ?_
    unfold refreshOut
    split <;> [exact (refl s).takeRefresh; exact refl s]
  passTimerExpiry c _ h := live h ((refl s).passTimerOut c)
  runningTimeExpiry c _ h := live h ((refl s).runningTimeOut c)
  flowMeterPulse c _ h := live h ((refl s).flowPulse c)
  guardExpiry c _ h := live h ((refl s).guardOut c)
  dischargePermitDrop d _ h := next h (of_same rfl rfl rfl rfl rfl rfl rfl) ((refl s).permitDrop d)
  dischargePermitReturn _ h := next h (of_same rfl rfl rfl rfl rfl rfl rfl) (refl s).permitReturn
  pauseLimitExpiry c _ h := live h ((refl s).pauseOut c)
  headInDrop c _ h := next h ((refl s).setHeadIn c _) ((refl s).headDrop c)
  headInRise c _ h := by rw [← Host.Outcome.next.inj h]; exact (refl s).setHeadIn c _
  drainDownExpiry c _ h := live h ((refl s).drainOut c)
  pdockChange l level _ h := next h ((refl s).modLine ⟨rfl, rfl⟩) ((refl s).pdockLevel l level)
  dockDebounceExpiry l _ h := live h ((refl s).debounceOut l)
  powerUpExpiry l _ h := live h ((refl s).powerUpOut l)
  resetLengthExpiry l _ h := live h ((refl s).resetLengthOut l)
  syncTimeout l _ h := live h ((refl s).syncOut l)
  openLimitExpiry l _ h := live h ((refl s).openLimitOut l)
  probeCharacterReceived l ch _ h := live h ((refl s).probeCharacter l ch)
  openingReply l _ h := live h ((refl s).replyReceived l)
  blockSendStart l _ h := live h ((refl s).startBlock l)
  characterSent l e _ h := live h ((refl s).endCharacter l e)
  blockWaitExpiry l _ h := live h ((refl s).blockWaitOut l)
  charWaitExpiry l _ h := live h ((refl s).charWaitOut l)
  blockReceived l _ h := live h ((refl s).blockReceived l)
  offTimerExpiry l _ h := live h ((refl s).offOut l)
  laneMeterPulse l _ h := live h ((refl s).meterPulse l)
  noFlowExpiry l _ h := live h ((refl s).noFlowOut l)
  armDrop l _ h := next h ((refl s).setArm l _) (((refl s).setArm l _).closeLane l _)
  armRise l _ h := by rw [← Host.Outcome.next.inj h]; exact (refl s).setArm l _
  settleExpiry l _ h := live h ((refl s).settleOut l)
  portCharacterReceived p ch _ h :=
    live (f := fun u => Machine.takeOwnStatus p u (u.modPort p fun q => q.receive ch)) h (takeOwnStatus _ _ ((refl s).setPort _ _))
  resetPinAsserted _ h := by rw [← Host.Outcome.next.inj h]; exact of_same rfl rfl rfl rfl rfl rfl rfl

/-- Every command but POWER_ON_RESET, in every state, keeps the laws and the heads of the bays. -/
theorem exec {c : Instr} (hc : ∀ x, c ≠ .powerOnReset x) (h : exec c s = .next t) : Lawful s t := (forEachCommand s t).all c hc h

end Lawful

/-- A step runs the command at the front of the queue, or lets the clock of an idle part run on. -/
theorem step_cases {s t : State} (h : step s = .next t) :
    (s.pending = [] ∧ t = idle s) ∨ ∃ c rest, s.pending = c :: rest ∧ exec c { s with pending := rest } = .next t := by
  unfold step at h
  split at h
  · next hp => exact .inl ⟨hp, (Host.Outcome.next.inj h).symm⟩
  · next c rest hp => exact .inr ⟨c, rest, hp, h⟩

/-- A step keeps the laws, or it is a POWER_ON_RESET, after which they hold. -/
theorem step_laws {s t : State} (h : step s = .next t) :
    Lawful s t ∨ ListsDistinct t ∧ PriorityComplete t ∧ RecordsSound t ∧ LanesServe t ∧ LinesServe t := by
  rcases step_cases h with ⟨-, rfl⟩ | ⟨c, rest, -, he⟩
  · left
    unfold idle
    split <;> [exact .refl s; exact .of_same rfl rfl rfl rfl rfl rfl rfl]
  · by_cases hc : ∀ x, c ≠ .powerOnReset x
    · have queue : Lawful s { s with pending := rest } := .of_same rfl rfl rfl rfl rfl rfl rfl
      exact .inl (queue.trans (Lawful.exec hc he))
    · push Not at hc
      obtain ⟨x, rfl⟩ := hc
      rw [← Host.Outcome.next.inj he]
      exact .inr (powerOn_laws ..)

/-- Settles O58: every step keeps the law of the records. -/
theorem stepKeepsRecordsSound : Obligations.StepKeepsRecordsSound := fun _ _ h hs =>
  (step_laws h).elim (fun k => k.records hs) fun ⟨_, _, records, _, _⟩ => records

/-- Settles O59: every step keeps the law of the lanes. -/
theorem stepKeepsLanesServing : Obligations.StepKeepsLanesServing := fun _ _ h hs =>
  (step_laws h).elim (fun k => k.lanes hs) fun ⟨_, _, _, lanes, _⟩ => lanes

/-- Settles O60: every step keeps the law of the probe lines. -/
theorem stepKeepsLinesServing : Obligations.StepKeepsLinesServing := fun _ _ h hs =>
  (step_laws h).elim (fun k => k.lines hs) fun ⟨_, _, _, _, lines⟩ => lines

end Sys2Proof.Machine
end

section
/-! The laws of the bookkeeping, of the grants and of the configuration through the operations that the work on records, channels, lines
and lanes is not: the ports, the clock, the tokens, the configuration store and the resets. -/

namespace Sys2Proof.Machine

open Sys2Proof (Byte Comp Tanker Bay Chan RecipeSlot CargoClass Line Lane Port)

/-! ## Ports (R175, R177, R181) -/

theorem countUp_le {limit n : Nat} (h : n ≤ limit) : countUp limit n ≤ limit := by
  unfold countUp; split <;> omega

/-- What an operation on a port may do to its counters and flags: the counters stop where they stop, and flags in order stay in order. -/
structure PortMove (q x : StationPort) : Prop where
  gap : q.gapCount ≤ Config.counterStop → x.gapCount ≤ Config.counterStop
  check : q.checkCount ≤ Config.counterStop → x.checkCount ≤ Config.counterStop
  length : q.lengthCount ≤ Config.counterStop → x.lengthCount ≤ Config.counterStop
  overrun : q.overrunCount ≤ Config.counterStop → x.overrunCount ≤ Config.counterStop
  time : q.countingTime ≤ Config.countStop → x.countingTime ≤ Config.countStop
  flags : (q.flags.Pairwise fun a b => a.before b = true) → x.flags.Pairwise fun a b => a.before b = true

namespace PortMove

variable {q x y : StationPort}

theorem refl (q : StationPort) : PortMove q q := ⟨id, id, id, id, id, id⟩

theorem trans (h : PortMove q x) (k : PortMove x y) : PortMove q y :=
  ⟨k.gap ∘ h.gap, k.check ∘ h.check, k.length ∘ h.length, k.overrun ∘ h.overrun, k.time ∘ h.time, k.flags ∘ h.flags⟩

theorem seek (q : StationPort) : PortMove q q.seek := ⟨id, id, id, id, id, id⟩

theorem store (q : StationPort) (x : ReceiverState) (b : Byte) : PortMove q (q.store x b) := ⟨id, id, id, id, id, id⟩

theorem drop (q : StationPort) (cause : DropCause) : PortMove q (q.drop cause) := by
  cases cause with
  | badLength => exact ⟨id, id, countUp_le, id, id, id⟩
  | framingError => exact ⟨id, countUp_le, id, id, id, id⟩
  | crcMismatch => exact ⟨id, countUp_le, id, id, id, id⟩

theorem overran (q : StationPort) : PortMove q q.overrun := ⟨id, id, id, countUp_le, id, id⟩

theorem complete (q : StationPort) (kind tag : Byte) (payload : List Byte) : PortMove q (q.complete kind tag payload) := by
  unfold StationPort.complete
  split <;> [exact ⟨id, id, id, id, id, id⟩; exact overran q]

theorem judge (q : StationPort) : PortMove q q.judge := by
  unfold StationPort.judge
  dsimp only
  split <;> [exact complete ..; exact drop ..]

theorem receive (q : StationPort) (ch : PortChar) : PortMove q (q.receive ch) := by
  unfold StationPort.receive
  split
  · split <;> [exact (seek q).trans (store ..); exact refl q]
  · split <;> [exact drop ..; (split <;> [exact store ..; exact drop ..])]
  · split <;> [exact drop ..; (split <;> exact store ..)]
  · split <;> [exact drop ..; (split <;> [exact (store ..).trans (judge _); exact store ..])]

theorem gapOut (q : StationPort) : PortMove q q.gapOut := by
  unfold StationPort.gapOut
  split <;> [exact refl q; exact ⟨countUp_le, id, id, id, id, id⟩]

theorem overrunHeld (q : StationPort) : PortMove q q.overrunHeld := by
  unfold StationPort.overrunHeld
  split <;> [exact overran q; exact refl q]

theorem sent (q : StationPort) : PortMove q q.sent := by
  unfold StationPort.sent
  split <;> [exact ⟨id, id, id, id, id, id⟩; exact refl q]

theorem clearCounters (q : StationPort) : PortMove q q.clearCounters :=
  ⟨fun _ => Nat.zero_le _, fun _ => Nat.zero_le _, fun _ => Nat.zero_le _, fun _ => Nat.zero_le _, fun _ => Nat.zero_le _, id⟩

theorem counted (q : StationPort) : PortMove q { q with countingTime := countUp Config.countStop q.countingTime } :=
  ⟨id, id, id, id, countUp_le, id⟩

theorem fetched (q : StationPort) (P : Notice → Bool) : PortMove q { q with flags := q.flags.filter P } :=
  ⟨id, id, id, id, id, fun h => h.filter P⟩

theorem afterYardReset (q : StationPort) : PortMove q q.afterYardReset :=
  ⟨fun _ => Nat.zero_le _, fun _ => Nat.zero_le _, fun _ => Nat.zero_le _, fun _ => Nat.zero_le _, fun _ => Nat.zero_le _,
    fun _ => List.Pairwise.nil⟩

end PortMove

/-! ## Recipes and the staging buffer (R40, R45) -/

theorem Recipe.wf_iff (x : Recipe) :
    x.wf = true ↔ (1 ≤ x.rounds ∧ x.rounds ≤ 4 ∧ 1 ≤ x.steps.length ∧ x.steps.length ≤ 12)
      ∧ ∀ st ∈ x.steps, stepAllowed st = true := by
  simp [Recipe.wf]

theorem Staging.wf_iff (x : Staging) :
    x.wf = true ↔ (x.stepCount ≤ 12 ∧ 1 ≤ x.rounds ∧ x.rounds ≤ 4)
      ∧ ∀ (i : Fin 12) (st : RecipeStep), x.positions[i] = some st → stepAllowed st = true ∧ i.val < x.stepCount := by
  simp [Staging.wf, Option.all_eq_true]

theorem Staging.empty_wf : Staging.empty.wf = true := by decide

theorem Staging.write_wf {x : Staging} (h : x.wf = true) (n : Fin 12) {st : RecipeStep} (hst : stepAllowed st = true) :
    (x.write n st).wf = true := by
  rw [Staging.wf_iff] at h ⊢
  obtain ⟨⟨hcount, hrounds⟩, hpos⟩ := h
  refine ⟨⟨Nat.max_le.2 ⟨hcount, n.isLt⟩, hrounds⟩, fun i st' hi => ?_⟩
  have there : (x.write n st).positions[i] = if i = n then some st else x.positions[i] := put_get ..
  have count : (x.write n st).stepCount = max x.stepCount (n.val + 1) := rfl
  rw [there] at hi
  split at hi
  · next e =>
    obtain rfl := Option.some.inj hi
    exact ⟨hst, by rw [count, e]; omega⟩
  · obtain ⟨ok, lt⟩ := hpos i st' hi
    exact ⟨ok, by omega⟩

theorem Staging.load_wf {x : Recipe} (h : x.wf = true) : (Staging.load x).wf = true := by
  obtain ⟨⟨hlow, hhigh, -, hlen⟩, hsteps⟩ := x.wf_iff.1 h
  refine (Staging.wf_iff _).2 ⟨⟨hlen, hlow, hhigh⟩, fun i st hi => ?_⟩
  have at_i : x.steps[i.val]? = some st := by simpa [Staging.load] using hi
  exact ⟨hsteps st (List.mem_of_getElem? at_i), (List.getElem?_eq_some_iff.1 at_i).1⟩

/-- The recipe that a sound staging buffer commits is as a slot holds it (R40, R52). -/
theorem Staging.committed_wf {x : Staging} (h : x.wf = true) {l : List RecipeStep} (hl : readAll id x.used = some l)
    (h0 : x.stepCount ≠ 0) : (⟨x.rounds, l⟩ : Recipe).wf = true := by
  obtain ⟨⟨hcount, hlow, hhigh⟩, hpos⟩ := x.wf_iff.1 h
  obtain ⟨hlen, -⟩ := Staging.steps_of_readAll_used hcount hl
  refine (Recipe.wf_iff _).2 ⟨⟨hlow, hhigh, hlen ▸ Nat.pos_of_ne_zero h0, hlen ▸ hcount⟩, fun st hst => ?_⟩
  have used : some st ∈ x.used := by
    rw [Staging.used_eq_map_some hl]
    exact List.mem_map_of_mem hst
  obtain ⟨i, -, hi⟩ := (x.mem_used_iff _).1 used
  exact (hpos i st hi).1

theorem Setting.ofIndex (x : Setting) : Setting.all[x.index.val]? = some x := by cases x <;> rfl

theorem Setting.index_injective : Function.Injective Setting.index := fun x y h =>
  Option.some.inj ((Setting.ofIndex x).symm.trans (h ▸ Setting.ofIndex y))

theorem setting_put (s : State) (x y : Setting) (v : Nat) :
    ({ s with settings := put s.settings x.index v } : State).setting y = if y = x then v else s.setting y := by
  show (put s.settings x.index v)[y.index] = _
  rw [put_get]
  simp only [Setting.index_injective.eq_iff]
  rfl

end Sys2Proof.Machine
end

section
/-! What each operation keeps of the laws of the bookkeeping, of the grants and of the configuration, and of the configuration store
itself. -/

namespace Sys2Proof.Machine

open Sys2Proof (Byte Comp Tanker Bay Chan RecipeSlot CargoClass Line Lane Port)

/-- The laws of the bookkeeping, of the grants and of the configuration that hold before hold after, and the command queue is as it
was. -/
structure Bookkept (s t : State) : Prop where
  inRange : SettingsInRange s → SettingsInRange t
  departures : DeparturesFit s → DeparturesFit t
  tokens : TokensWithin s → TokensWithin t
  clock : ClockInRange s → ClockInRange t
  counters : CountersStop s → CountersStop t
  notices : NoticesOrdered s → NoticesOrdered t
  grants : GrantsWithin s → GrantsWithin t
  configuration : ConfigurationSound s → ConfigurationSound t
  pending : t.pending = s.pending

/-- The configuration but for the matrix and the limit table is as it was. -/
structure SameStore (s t : State) : Prop where
  recipes : t.recipes = s.recipes
  staging : t.staging = s.staging
  settings : t.settings = s.settings
  hotCapacity : t.plant.hotCapacity = s.plant.hotCapacity
  scheme : t.plant.scheme = s.plant.scheme
  portRate : t.portRate = s.portRate
  yardOpen : t.yardOpen = s.yardOpen

theorem SameStore.refl (s : State) : SameStore s s := ⟨rfl, rfl, rfl, rfl, rfl, rfl, rfl⟩

theorem SameStore.trans {s t u : State} (h : SameStore s t) (k : SameStore t u) : SameStore s u :=
  ⟨k.recipes.trans h.recipes, k.staging.trans h.staging, k.settings.trans h.settings, k.hotCapacity.trans h.hotCapacity,
    k.scheme.trans h.scheme, k.portRate.trans h.portRate,
    k.yardOpen.trans h.yardOpen⟩

/-- The laws are kept and the configuration is as it was. -/
structure Quiet (s t : State) : Prop extends Bookkept s t, SameStore s t where
  matrix : t.matrix = s.matrix
  limits : t.limits = s.limits

theorem Bookkept.refl (s : State) : Bookkept s s := ⟨id, id, id, id, id, id, id, id, rfl⟩

theorem Bookkept.trans {s t u : State} (h : Bookkept s t) (k : Bookkept t u) : Bookkept s u :=
  ⟨k.inRange ∘ h.inRange, k.departures ∘ h.departures, k.tokens ∘ h.tokens, k.clock ∘ h.clock, k.counters ∘ h.counters,
    k.notices ∘ h.notices, k.grants ∘ h.grants, k.configuration ∘ h.configuration, k.pending.trans h.pending⟩

/-- The law of the configuration speaks of the staging buffer, the slots and the matrix alone. -/
theorem ConfigurationSound.congr {s t : State} (hs : t.staging = s.staging) (hr : t.recipes = s.recipes) (hm : t.matrix = s.matrix)
    (h : ConfigurationSound s) : ConfigurationSound t := by
  obtain ⟨staging, slots, cells⟩ := h
  have recipe : ∀ x, t.recipe x = s.recipe x := fun x => by simp only [State.recipe, hr]
  have cell : ∀ a b, t.cell a b = s.cell a b := fun a b => by simp only [State.cell, hm]
  refine ⟨hs ▸ staging, fun x => by rw [recipe]; exact slots x, fun a b => ?_⟩
  rw [cell]
  have names : ∀ c, namesEmptySlot t c = namesEmptySlot s c := fun c => by cases c <;> simp [namesEmptySlot, recipe]
  rw [names]
  exact cells a b

namespace Quiet

theorem refl (s : State) : Quiet s s := ⟨.refl s, .refl s, rfl, rfl⟩

theorem trans {s t u : State} (h : Quiet s t) (k : Quiet t u) : Quiet s u :=
  ⟨h.toBookkept.trans k.toBookkept, h.toSameStore.trans k.toSameStore, k.matrix.trans h.matrix, k.limits.trans h.limits⟩

/-- Work on records, queues, channels, claims, lines and lanes keeps the laws and the configuration. -/
theorem of_kept {s t : State} (h : Kept s t) : Quiet s t where
  inRange hs x := by rw [State.setting, h.settings]; exact hs x
  departures hs := by rw [DeparturesFit, h.departures]; exact hs
  tokens hs c := by rw [h.tokens]; exact hs c
  clock hs := by rw [ClockInRange, h.clock]; exact hs
  counters hs p := by rw [h.ports p]; exact hs p
  notices := h.notices
  grants hs := ⟨by rw [h.hotCapacity]; exact hs.1, h.grants hs.2⟩
  configuration hs := hs.congr h.staging h.recipes h.matrix
  pending := h.pending
  recipes := h.recipes
  staging := h.staging
  settings := h.settings
  hotCapacity := h.hotCapacity
  scheme := h.scheme
  portRate := h.portRate
  yardOpen := h.yardOpen
  matrix := h.matrix
  limits := h.limits

variable {s t : State}

theorem kept (h : Quiet s t) {u : State} (k : Kept t u) : Quiet s u := h.trans (of_kept k)

theorem foldl {α : Type} (f : State → α → State) (hf : ∀ u a, Quiet u (f u a)) (h : Quiet s t) (l : List α) :
    Quiet s (l.foldl f t) := by
  induction l generalizing t with
  | nil => exact h
  | cons a l ih => exact ih (h.trans (hf t a))

/-! ## Updates -/

/-- Ports changed, each by a move. -/
theorem ports (h : Quiet s t) (v : Vector StationPort 6) (hv : ∀ p, PortMove (t.port p) (v[p])) : Quiet s { t with ports := v } :=
  h.trans ⟨⟨id, id, id, id, fun k p => ⟨(hv p).gap (k p).1, (hv p).check (k p).2.1, (hv p).length (k p).2.2.1,
    (hv p).overrun (k p).2.2.2.1, (hv p).time (k p).2.2.2.2⟩, fun k p => (hv p).flags (k p), id, id, rfl⟩,
    ⟨rfl, rfl, rfl, rfl, rfl, rfl, rfl⟩, rfl, rfl⟩

theorem setPort (h : Quiet s t) (p : Port) {x : StationPort} (hx : PortMove (t.port p) x) : Quiet s (t.setPort p x) := by
  refine h.ports _ fun q => ?_
  rw [put_get]
  split <;> [(rename_i e; rw [e]; exact hx); exact .refl _]

theorem modPort (h : Quiet s t) (p : Port) {f : StationPort → StationPort} (hf : ∀ q, PortMove q (f q)) :
    Quiet s (t.modPort p f) := h.setPort p (hf _)

/-- The arbiter changed in its tokens and its grants, within their bounds. -/
theorem setPlant (h : Quiet s t) {p : Plant} (hot : p.hotCapacity = t.plant.hotCapacity) (scheme : p.scheme = t.plant.scheme)
    (tokens : TokensWithin t → ∀ c : Chan, (p.tokens[c]).remaining ≤ (p.tokens[c]).allowance)
    (grants : t.plant.granted.fits t.plant.capacity = true → p.granted.fits p.capacity = true) : Quiet s (t.setPlant p) :=
  h.trans ⟨⟨id, id, tokens, id, id, id, fun k => ⟨by rw [State.plant_setPlant, hot]; exact k.1, grants k.2⟩, id, rfl⟩,
    ⟨rfl, rfl, rfl, hot, scheme, rfl, rfl⟩, rfl, rfl⟩

theorem setClock (h : Quiet s t) {c : Clock}
    (hc : ClockInRange s → c.second < Config.secondsPerMinute ∧ c.minute < Config.minuteModulus
      ∧ c.period < Config.periodsPerSecond) : Quiet s { t with clock := c } :=
  ⟨⟨h.inRange, h.departures, h.tokens, hc, h.counters, h.notices, h.grants, h.configuration, h.pending⟩,
    ⟨h.recipes, h.staging, h.settings, h.hotCapacity, h.scheme, h.portRate, h.yardOpen⟩, h.matrix, h.limits⟩

theorem setDepartures (h : Quiet s t) {l : List Departure} (hl : DeparturesFit t → l.length ≤ Config.departureCapacity) :
    Quiet s { t with departures := l } :=
  h.trans ⟨⟨id, hl, id, id, id, id, id, id, rfl⟩, ⟨rfl, rfl, rfl, rfl, rfl, rfl, rfl⟩, rfl, rfl⟩

/-! ## The port's framing (R178, R179, R184) -/

theorem serve (kind : Byte) (r : Request) {owner : State → Taken} (ho : ∀ u, Quiet u (owner u).1) (h : Quiet s t) :
    Quiet s (serve kind r owner t) := by
  refine serve_keeps (P := Quiet s) (h.modPort _ fun q => ?_) (fun hu => hu.trans (ho _))
    (fun u a hu => hu.modPort _ fun q => ⟨id, id, id, id, id, id⟩) (h.modPort _ PortMove.overran)
  split <;> exact ⟨id, id, id, id, id, id⟩

theorem takeOwnStatus (p : Port) (before : State) (h : Quiet s t) : Quiet s (takeOwnStatus p before t) := by
  have status : ∀ (r : Request) (u : State), Quiet u (ownPortStatus r u).1 := fun r u => by
    rcases ownPortStatus_effect r u with e | e <;> rw [e]
    · exact refl u
    · exact (refl u).modPort _ PortMove.clearCounters
  unfold Machine.takeOwnStatus
  split
  · split <;> [exact h.serve _ _ (status _); exact h]
  · exact h

/-! ## The clock and the refresh (R107 to R109, R154) -/

theorem takeMinute (h : Quiet s t) : Quiet s (takeMinute t) := by
  have ticked := h.setClock (c := { t.clock with
      second := 0, minute := (t.clock.minute + 1) % Config.minuteModulus, minuteDue := false })
    fun k => ⟨Nat.zero_lt_succ 59, Nat.mod_lt _ (by decide), (h.clock k).2.2⟩
  unfold Machine.takeMinute
  generalize List.finRange 96 = l
  exact ticked.foldl _ (fun u i => of_kept ((Kept.refl u).examineExpiry i)) l

theorem refreshTokens (h : Quiet s t) : Quiet s (t.setPlant t.plant.refreshTokens) :=
  h.setPlant rfl rfl (fun _ c => by simp [Plant.refreshTokens]) id

theorem takeRefresh (h : Quiet s t) : Quiet s (takeRefresh t) := h.refreshTokens.kept (Kept.refl _).arbitrate

theorem chargeTokens (h : Quiet s t) (charge : Vector Nat 8) : Quiet s (t.setPlant (t.plant.chargeTokens charge)) := by
  refine h.setPlant rfl rfl (fun k c => ?_) id
  simp only [Plant.chargeTokens, Fin.getElem_fin, Vector.getElem_ofFn]
  split
  · exact k c
  · exact (Nat.sub_le _ _).trans (k c)

theorem countSecond (h : Quiet s t) : Quiet s (countSecond t) := by
  have lanes : Quiet t { t with
      channels := Vector.ofFn fun c : Chan => tickChannel t c, lanes := Vector.ofFn fun l : Lane => tickLane t l } :=
    ⟨⟨id, id, id, id, id, id, id, id, rfl⟩, ⟨rfl, rfl, rfl, rfl, rfl, rfl, rfl⟩, rfl, rfl⟩
  have ports := (h.trans lanes).ports (Vector.ofFn fun p : Port =>
    { t.port p with countingTime := countUp Config.countStop (t.port p).countingTime }) fun p => by
      rw [Fin.getElem_fin, Vector.getElem_ofFn]; exact PortMove.counted _
  exact ports.setPlant (p := t.plant.countRefresh (t.setting .refreshPeriod)) rfl rfl id id

theorem takeSecond (first : Bool) (s : State) : Quiet s (takeSecond first s) := by
  have minute : Quiet s (if s.clock.minuteDue then Machine.takeMinute s else s) := by
    split <;> [exact (refl s).takeMinute; exact refl s]
  unfold Machine.takeSecond
  dsimp only
  generalize (if s.clock.minuteDue then Machine.takeMinute s else s) = s0 at minute ⊢
  have counted := minute.countSecond
  have refreshed : Quiet s (if (first && (Machine.countSecond s0).plant.refreshDue) = true then
      Machine.takeRefresh (Machine.countSecond s0) else Machine.countSecond s0) := by
    split <;> [exact counted.takeRefresh; exact counted]
  refine (refreshed.chargeTokens (tickCharges s0)).setClock fun k => ?_
  obtain ⟨second, minutes, -⟩ := minute.clock k
  unfold Clock.tick
  split <;> [exact ⟨‹_›, minutes, Nat.zero_lt_succ _⟩; exact ⟨second, minutes, Nat.zero_lt_succ _⟩]

end Quiet

end Sys2Proof.Machine
end

section
/-! The configuration store, the departure queue, BOOK and PARK, and the resets keep the laws of the bookkeeping, of the grants and of the
configuration. -/

namespace Sys2Proof.Machine

open Sys2Proof (Byte Comp Tanker Bay Chan RecipeSlot CargoClass Line Lane Port)

/-! ## The configuration store (R32, R47 to R53, R103, R111, R185) -/

theorem Kept.dropClaim (s : State) (c : Chan) : Kept s (dropClaim s c) := by
  have claim := (Kept.refl s).setClaim c none
  unfold Machine.dropClaim
  dsimp only
  split <;> [exact claim.stopHeads _; exact claim]

namespace Bookkept

variable {s t : State}

/-- What changes the configuration alone keeps the other laws. -/
theorem of_configuration {s t : State} (hs : SettingsInRange s → SettingsInRange t) (hc : ConfigurationSound s → ConfigurationSound t)
    (hd : t.departures = s.departures) (hp : t.plant = s.plant) (hk : t.clock = s.clock) (hq : t.ports = s.ports)
    (hn : t.pending = s.pending) : Bookkept s t := by
  have port : ∀ p, t.port p = s.port p := fun p => by simp only [State.port, hq]
  refine ⟨hs, fun h => ?_, fun h c => ?_, fun h => ?_, fun h p => ?_, fun h p => ?_, fun h => ?_, hc, hn⟩
  · rw [DeparturesFit, hd]; exact h
  · rw [hp]; exact h c
  · rw [ClockInRange, hk]; exact h
  · rw [port]; exact h p
  · rw [port]; exact h p
  · rw [GrantsWithin, hp]; exact h

theorem writeRow (s : State) (row : CargoClass) {l : List Cell} (hlen : l.length = 32) (hl : ∀ x ∈ l, namesEmptySlot s x = false) :
    Bookkept s { s with matrix := put s.matrix row (rowOf l) } := by
  refine of_configuration id (fun ⟨staging, slots, cells⟩ => ⟨staging, slots, fun a b => ?_⟩) rfl rfl rfl rfl rfl
  have here : ({ s with matrix := put s.matrix row (rowOf l) } : State).cell a b
      = if a = row then l.getD b.val .barred else s.cell a b := by
    show (put s.matrix row (rowOf l))[a][b] = _
    rw [put_get]
    split
    · simp [rowOf]
    · rfl
  show namesEmptySlot s _ = false
  rw [here]
  split
  · rw [List.getD_eq_getElem _ _ (by omega)]
    exact hl _ (List.getElem_mem _)
  · exact cells a b

theorem setStaging (s : State) {x : Staging} (hx : ConfigurationSound s → x.wf = true) : Bookkept s { s with staging := x } :=
  of_configuration id (fun h => ⟨hx h, h.2⟩) rfl rfl rfl rfl rfl

theorem commit (s : State) (i : RecipeSlot) {x : Recipe} (hx : ConfigurationSound s → x.wf = true) :
    Bookkept s { s with recipes := put s.recipes i (some x) } := by
  have recipe : ∀ j, ({ s with recipes := put s.recipes i (some x) } : State).recipe j = if j = i then some x else s.recipe j :=
    fun j => put_get ..
  refine of_configuration id (fun h => ⟨h.1, fun j => ?_, fun a b => ?_⟩) rfl rfl rfl rfl rfl
  · rw [recipe]
    split <;> [exact hx h; exact h.2.1 j]
  · have before := h.2.2 a b
    show namesEmptySlot _ (s.cell a b) = false
    cases hc : s.cell a b with
    | slot j =>
      rw [hc] at before
      simp only [namesEmptySlot, recipe] at before ⊢
      split <;> [rfl; exact before]
    | none => rfl
    | barred => rfl

theorem erase (s : State) {i : RecipeSlot} (hi : namedByMatrix s i = false) :
    Bookkept s { s with recipes := put s.recipes i none } := by
  have recipe : ∀ j, ({ s with recipes := put s.recipes i none } : State).recipe j = if j = i then none else s.recipe j :=
    fun j => put_get ..
  refine of_configuration id (fun h => ⟨h.1, fun j => ?_, fun a b => ?_⟩) rfl rfl rfl rfl rfl
  · rw [recipe]
    split <;> [rfl; exact h.2.1 j]
  · have before := h.2.2 a b
    show namesEmptySlot _ (s.cell a b) = false
    cases hc : s.cell a b with
    | slot j =>
      have other : j ≠ i := fun e => by
        have := (namedByMatrix_iff s i).2 ⟨a, b, e ▸ hc⟩
        rw [hi] at this
        exact nomatch this
      rw [hc] at before
      simpa only [namesEmptySlot, recipe, if_neg other] using before
    | none => rfl
    | barred => rfl

theorem setSetting (s : State) {x : Setting} {v : Nat} (hv : x.inRange v = true) :
    Bookkept s { s with settings := put s.settings x.index v } := by
  refine of_configuration (fun h y => ?_) id rfl rfl rfl rfl rfl
  rw [setting_put]
  split <;> [(rename_i e; rw [e]; exact hv); exact h y]

theorem changeHotCapacity (s : State) {n : Nat} (hn : 1 ≤ n ∧ n ≤ 8) (hg : s.plant.granted.hot ≤ n) :
    Bookkept s (changeHotCapacity n s) := by
  have set : Bookkept s (s.setPlant { s.plant with hotCapacity := n }) := by
    refine ⟨id, id, id, id, id, id, fun h => ⟨hn, ?_⟩, id, rfl⟩
    have before := (Units.fits_iff _ _).1 h.2
    exact (Units.fits_iff _ _).2 ⟨hg, before.2.1, before.2.2⟩
  exact set.trans (Quiet.of_kept ((Kept.refl _).foldl _ Kept.dropClaim _).arbitrate).toBookkept

theorem setScheme (s : State) (x : Scheme) (order : List Chan) :
    Bookkept s (s.setPlant { s.plant with scheme := x, priority := order }) :=
  ⟨id, id, id, id, id, id, id, id, rfl⟩

/-! ## What comes between two readings (R34) -/

theorem serve (kind : Byte) (r : Request) {owner : State → Taken} (ho : ∀ u, Bookkept u (owner u).1) (h : Bookkept s t) :
    Bookkept s (serve kind r owner t) := by
  have port : ∀ (u : State) {f : StationPort → StationPort}, (∀ q, PortMove q (f q)) → Bookkept u (u.modPort r.port f) :=
    fun u _ hf => ((Quiet.refl u).modPort _ hf).toBookkept
  refine serve_keeps (P := Bookkept s) (h.trans (port _ fun q => ?_)) (fun hu => hu.trans (ho _))
    (fun u a hu => hu.trans (port _ fun q => ⟨id, id, id, id, id, id⟩)) (h.trans (port _ PortMove.overran))
  split <;> exact ⟨id, id, id, id, id, id⟩

theorem serveRequest (k : RequestKind) (r : Request) {owner : State → Taken} (ho : ∀ u, Bookkept u (owner u).1) (h : Bookkept s t) :
    Bookkept s (serveRequest k r owner t) :=
  h.serve _ _ fun u => permitted_keeps (P := Bookkept u) (refl u) (ho u)

theorem ownWriteMatrixRow (r : Request) (s : State) : Bookkept s (ownWriteMatrixRow r s).1 := by
  rcases ownWriteMatrixRow_effect r s with e | ⟨row, l, hlen, hl, e⟩ <;> rw [e]
  · exact refl s
  · exact writeRow s row hlen hl

theorem ownWriteLimits (r : Request) (s : State) : Bookkept s (ownWriteLimits r s).1 := by
  rcases ownWriteLimits_effect r s with e | ⟨v, e⟩ <;> rw [e]
  · exact refl s
  · exact ⟨id, id, id, id, id, id, id, id, rfl⟩

end Bookkept

/-! ## BOOK and PARK, with what comes between their readings -/

/-- What comes between the readings of a BOOK keeps, and all work on the records, the BOOK keeps. -/
theorem ownBook_keeps {P : State → Prop} {s : State} {x : ReadingRequest} (h : Amid.Keeps P (s, x.between))
    (work : ∀ u v, Kept u v → P u → P v) : P (ownBook x s).1 := by
  rcases ownBook_effect x s with e | ⟨ds, -, e | ⟨fleet, e⟩⟩ <;> rw [e]
  · exact h.now
  · exact h.readBarred ds
  · rcases bookTanker_effect fleet ds (readBarred ds (s, x.between)).2 with e | ⟨slot, d, -, e⟩ <;> rw [e]
    · exact h.readBarred ds
    · exact work _ _ (((Kept.refl _).bookRecords ..).setTanker _ _) (h.readBarred ds)

/-- What comes between the readings of a PARK keeps, and all work on the records and queues, the PARK keeps. -/
theorem ownPark_keeps {P : State → Prop} {s : State} {x : ReadingRequest} (h : Amid.Keeps P (s, x.between))
    (work : ∀ u v, Kept u v → P u → P v) : P (ownPark x s).1 := by
  rcases ownPark_effect x s with e | ⟨b, i, y, -, e⟩ <;> rw [e]
  · exact h.now
  · have parked : P ((s.setTanker i (some { y with bay := some b })).modBay b fun z => { z with parked := some i }) :=
      work s _ (((Kept.refl s).setTanker i _).modBay b _) h.now
    have amid : Amid.Keeps P (_, x.between) := ⟨parked, h.gaps⟩
    unfold parkTanker
    exact work _ _ ((Kept.refl _).oweAttempt b)
      (amid.queueInAll b (fun k u cell hu => work _ _ ((Kept.refl u).queueInOn cell b k) hu) _)

/-- The laws are kept, and the configuration but for the matrix and the limit table. -/
structure Amended (s t : State) : Prop extends Bookkept s t, SameStore s t

namespace Amended

variable {s t : State}

theorem refl (s : State) : Amended s s := ⟨.refl s, .refl s⟩

theorem trans {u : State} (h : Amended s t) (k : Amended t u) : Amended s u :=
  ⟨h.toBookkept.trans k.toBookkept, h.toSameStore.trans k.toSameStore⟩

theorem quiet (h : Amended s t) {u : State} (k : Quiet t u) : Amended s u := h.trans ⟨k.toBookkept, k.toSameStore⟩

theorem takeBetween (h : Amended s t) (e : Between) : Amended s (takeBetween t e) := by
  refine h.trans ⟨?_, ?_⟩
  · cases e with
    | writeMatrixRow r => exact (Bookkept.refl t).serveRequest _ _ (Bookkept.ownWriteMatrixRow r)
    | writeLimits r => exact (Bookkept.refl t).serveRequest _ _ (Bookkept.ownWriteLimits r)
    | answerSent p => exact ((Quiet.refl t).modPort p PortMove.sent).toBookkept
  · obtain ⟨m, l, p, ht⟩ := takeBetween_fields t e
    rw [ht]
    exact ⟨rfl, rfl, rfl, rfl, rfl, rfl, rfl⟩

theorem amid (s : State) (gaps : List (List Between)) : Amid.Keeps (Amended s) (s, gaps) :=
  ⟨refl s, fun _ _ e _ _ hu => hu.takeBetween e⟩

theorem ownBook (s : State) (x : ReadingRequest) : Amended s (ownBook x s).1 :=
  ownBook_keeps (amid s x.between) fun _ _ k hu => hu.quiet (.of_kept k)

theorem ownPark (s : State) (x : ReadingRequest) : Amended s (ownPark x s).1 :=
  ownPark_keeps (amid s x.between) fun _ _ k hu => hu.quiet (.of_kept k)

end Amended

/-! ## DEPART and the resets (R19, R24 to R26, R119, R176) -/

namespace Quiet

variable {s t : State}

theorem departTanker (s : State) (i : Tanker) {x : TankerData}
    (hx : s.departures.length + x.compartments.length ≤ Config.departureCapacity) : Quiet s (departTanker i x s) := by
  have freed : Kept s (x.compartments.foldl (fun u k => u.setComp k CompartmentRecord.freed) s) :=
    (Kept.refl s).foldl _ (fun u k => (Kept.refl u).setComp k _) _
  unfold Machine.departTanker
  dsimp only
  refine kept ?_ (((Kept.refl _).setTanker i none).raiseNotice ..)
  exact (of_kept freed).setDepartures fun _ => by simpa using hx

theorem resetBlocks (s : State) : Quiet s (resetBlocks s) := by
  have blocks : Quiet s { s with
      channels := Vector.ofFn fun c : Chan => (s.chan c).afterYardReset
      lines := Vector.ofFn fun l : Line => (s.line l).afterYardReset (s.setting .powerOffTime)
      inspections := Vector.replicate 2 none
      bays := Vector.ofFn fun b : Bay => { s.bay b with owed := 0 } } :=
    ⟨⟨id, id, id, id, id, id, id, id, rfl⟩, ⟨rfl, rfl, rfl, rfl, rfl, rfl, rfl⟩, rfl, rfl⟩
  have ports := blocks.ports (Vector.ofFn fun p : Port => (s.port p).afterYardReset) fun p => by
    rw [Fin.getElem_fin, Vector.getElem_ofFn]; exact PortMove.afterYardReset _
  refine ports.setPlant (p := s.plant.afterYardReset) rfl rfl (fun _ c => ?_) fun _ => ?_
  · simp [Plant.afterYardReset, Plant.refreshTokens]
  · have none : s.plant.afterYardReset.granted = Units.zero := by
      simp [Plant.granted, Plant.grantUnits, Plant.afterYardReset, Units.add, Units.zero]
    rw [none]
    exact (Units.fits_iff _ _).2 ⟨Nat.zero_le _, Nat.zero_le _, Nat.zero_le _⟩

theorem resetLanes (h : Quiet s t) : Quiet s (resetLanes t) :=
  h.trans ⟨⟨id, id, id, id, id, id, id, id, rfl⟩, ⟨rfl, rfl, rfl, rfl, rfl, rfl, rfl⟩, rfl, rfl⟩

theorem protectedReset (s : State) : Quiet s (protectedReset s) := by
  have records : ∀ u i, Kept u (interruptRecord u i) := fun u i => by
    unfold interruptRecord
    split <;> [exact (Kept.refl u).holdRecord ..; exact (Kept.refl u).modComp ..; exact .refl u; exact .refl u; exact .refl u;
      exact .refl u; exact .refl u; exact .refl u; exact .refl u; exact .refl u; exact .refl u]
  have fills : ∀ u l, Kept u (interruptFill u l) := fun u l => by
    rcases interruptFill_cases u l with ⟨e, -⟩ | ⟨x, -, -, e⟩ <;> rw [e]
    · exact .refl u
    · exact (Kept.refl u).reportFill ..
  unfold Machine.protectedReset
  generalize List.finRange 96 = l
  exact ((resetBlocks s).kept (((Kept.refl _).foldl _ records l).foldl _ fills _)).resetLanes

end Quiet

theorem Bookkept.unprotectedReset (s : State) : Bookkept s (unprotectedReset s) :=
  (Quiet.resetBlocks s).resetLanes.toBookkept.trans ⟨id, fun _ => Nat.zero_le _, id, id, id, id, id, id, rfl⟩

theorem Setting.powerOn_inRange (x : Setting) : x.inRange x.powerOn = true := by cases x <;> rfl

theorem settingsPowerOn_get (x : Setting) : settingsPowerOn[x.index] = x.powerOn := by
  simp [settingsPowerOn, Setting.ofIndex]

theorem matrixPowerOn_get (a b : CargoClass) : matrixPowerOn[a][b] = if a = b ∧ a ≠ 0 then Cell.none else .barred := by
  simp [matrixPowerOn]

/-- The laws of the bookkeeping, of the grants and of the configuration hold after every power-on. -/
theorem powerOn_bookkeeping (x : Straps) (permit : Bool) (headIn : Vector Bool 8) (pdock arm : Vector Bool 2) (pending : List Instr) :
    let t := State.powerOn x permit headIn pdock arm pending
    SettingsInRange t ∧ DeparturesFit t ∧ TokensWithin t ∧ ClockInRange t ∧ CountersStop t ∧ NoticesOrdered t ∧ GrantsWithin t
      ∧ ConfigurationSound t := by
  intro t
  have port : ∀ p, t.port p = StationPort.powerOn := fun p => by simp [t, State.powerOn, State.port]
  refine ⟨fun y => ?_, Nat.zero_le _, fun c => ?_, ?_, fun p => ?_, fun p => ?_, ⟨?_, ?_⟩, Staging.empty_wf, fun r => ?_, fun a b => ?_⟩
  · show y.inRange settingsPowerOn[y.index] = true
    rw [settingsPowerOn_get]
    exact y.powerOn_inRange
  · simp [t, State.powerOn, Plant.powerOn]
  · exact ⟨Nat.zero_lt_succ _, Nat.zero_lt_succ _, Nat.zero_lt_succ _⟩
  · rw [port]
    exact ⟨Nat.zero_le _, Nat.zero_le _, Nat.zero_le _, Nat.zero_le _, Nat.zero_le _⟩
  · rw [port]; exact List.Pairwise.nil
  · show 1 ≤ 4 ∧ 4 ≤ 8
    decide
  · show Plant.powerOn.granted.fits Plant.powerOn.capacity = true
    decide
  · simp [t, State.powerOn, State.recipe]
  · show namesEmptySlot t matrixPowerOn[a][b] = false
    rw [matrixPowerOn_get]
    split <;> rfl

theorem powerOn_bookkept (x : Straps) (s : State) : Bookkept s (powerOn x s) := by
  obtain ⟨inRange, departures, tokens, clock, counters, notices, grants, configuration⟩ :=
    powerOn_bookkeeping x s.permit (Vector.ofFn fun c : Chan => (s.chan c).headIn) (Vector.ofFn fun l : Line => (s.line l).pdock)
      (Vector.ofFn fun l : Lane => (s.lane l).arm) s.pending
  exact ⟨fun _ => inRange, fun _ => departures, fun _ => tokens, fun _ => clock, fun _ => counters, fun _ => notices,
    fun _ => grants, fun _ => configuration, rfl⟩

end Sys2Proof.Machine
end

section
/-! Every command keeps the laws of the bookkeeping, of the grants and of the configuration, and each part of the configuration is changed
by its own requests alone. -/

namespace Sys2Proof.Machine

open Sys2Proof (Byte Comp Tanker Bay Chan RecipeSlot CargoClass Line Lane Port)

/-! ## Owners -/

/-- The requests that write the configuration or the yard-open flag. -/
def RequestKind.configures (k : RequestKind) : Bool :=
  match k with
  | .writeMatrixRow | .writeLimits | .clearStaging | .writeStagingStep | .setStagingRounds | .loadStaging | .commitRecipe
  | .eraseRecipe | .setYard | .setHotCapacity | .setPriorityScheme | .openYard | .yardReset => true
  | _ => false

/-- The requests that read the matrix and the limit table record by record (R34). -/
def RequestKind.readsByRecord (k : RequestKind) : Bool :=
  match k with
  | .book | .park => true
  | _ => false

theorem readsByRecord_of_configures {k : RequestKind} (hk : k.configures = true) : k.readsByRecord = false := by
  cases k with
  | book => exact nomatch hk
  | park => exact nomatch hk
  | _ => rfl

theorem owner_configures {k : RequestKind} (hk : k.configures = true) (r : Request) (s : State) : Bookkept s (k.owner r s).1 := by
  cases k with
  | writeMatrixRow => exact .ownWriteMatrixRow r s
  | writeLimits => exact .ownWriteLimits r s
  | clearStaging =>
    rcases ownClearStaging_effect r s with e | e <;> rw [RequestKind.owner, e]
    · exact .refl s
    · exact .setStaging s fun _ => Staging.empty_wf
  | writeStagingStep =>
    rcases ownWriteStagingStep_effect r s with e | ⟨i, x, hx, e⟩ <;> rw [RequestKind.owner, e]
    · exact .refl s
    · exact .setStaging s fun h => Staging.write_wf h.1 i hx
  | setStagingRounds =>
    rcases ownSetStagingRounds_effect r s with e | ⟨n, hn, e⟩ <;> rw [RequestKind.owner, e]
    · exact .refl s
    · refine .setStaging s fun h => ?_
      obtain ⟨⟨hcount, -⟩, hpos⟩ := (Staging.wf_iff _).1 h.1
      exact (Staging.wf_iff _).2 ⟨⟨hcount, hn⟩, hpos⟩
  | loadStaging =>
    rcases ownLoadStaging_effect r s with e | ⟨i, x, hx, e⟩ <;> rw [RequestKind.owner, e]
    · exact .refl s
    · exact .setStaging s fun h => Staging.load_wf (by simpa [hx] using h.2.1 i)
  | commitRecipe =>
    rcases ownCommitRecipe_effect r s with e | ⟨i, l, hl, h0, e⟩ <;> rw [RequestKind.owner, e]
    · exact .refl s
    · exact .commit s i fun h => Staging.committed_wf h.1 hl h0
  | eraseRecipe =>
    rcases ownEraseRecipe_effect r s with e | ⟨i, hi, e⟩ <;> rw [RequestKind.owner, e]
    · exact .refl s
    · exact .erase s hi
  | setYard =>
    rcases ownSetYard_effect r s with e | ⟨x, v, hv, e⟩ <;> rw [RequestKind.owner, e]
    · exact .refl s
    · exact .setSetting s hv
  | setHotCapacity =>
    rcases ownSetHotCapacity_effect r s with e | ⟨n, hn, hg, e⟩ <;> rw [RequestKind.owner, e]
    · exact .refl s
    · exact .changeHotCapacity s hn hg
  | setPriorityScheme =>
    rcases ownSetPriorityScheme_effect r s with e | ⟨x, e⟩ <;> rw [RequestKind.owner, e]
    · exact .refl s
    · exact .setScheme s x _
  | openYard =>
    rcases ownOpenYard_effect r s with e | e <;> rw [RequestKind.owner, e]
    · exact .refl s
    · exact ⟨id, id, id, id, id, id, id, id, rfl⟩
  | yardReset =>
    rcases ownYardReset_effect r s with e | e | e <;> rw [RequestKind.owner, e]
    · exact .refl s
    · exact (Quiet.protectedReset s).toBookkept
    · exact .unprotectedReset s
  | _ => exact nomatch hk

/-- The requests whose effect is work on records, queues, channels, claims, lines and lanes alone. -/
def RequestKind.works (k : RequestKind) : Bool :=
  match k with
  | .setNextClass | .dispose | .withdraw | .unpark | .expedite | .requestDispatch | .cancelBinding | .startRun | .startRehearsal
  | .abortRun | .clearFault | .serviceEnter | .serviceLatch | .serviceClaim | .serviceRelease | .serviceExit | .inspect | .cancelInspect | .authorizeFill | .stopFill => true
  | _ => false

theorem owner_kept {k : RequestKind} (hk : k.works = true) (r : Request) (s : State) : Kept s (k.owner r s).1 := by
  have start := Kept.refl s
  cases k with
  | setNextClass =>
    rcases ownSetNextClass_effect r s with e | ⟨i, c, -, -, e⟩ <;> rw [RequestKind.owner, e]
    · exact .refl s
    · exact (start.modComp i _).queueInAlone i
  | dispose =>
    rcases ownDispose_effect r s with e | ⟨i, -, e | e⟩ <;> rw [RequestKind.owner, e]
    · exact .refl s
    · exact (start.setComp i _).queueInAlone i
    · exact start.setComp i _
  | withdraw =>
    rcases ownWithdraw_effect r s with e | ⟨i, -, e⟩ <;> rw [RequestKind.owner, e]
    · exact .refl s
    · exact start.setComp i _
  | unpark =>
    rcases ownUnpark_effect r s with e | ⟨b, i, x, -, e⟩ <;> rw [RequestKind.owner, e]
    · exact .refl s
    · exact start.unparkTanker b i x
  | expedite =>
    rcases ownExpedite_effect r s with e | ⟨i, -, e | ⟨b, f, -, e⟩⟩ <;> rw [RequestKind.owner, e]
    · exact .refl s
    · exact start.modComp i _
    · exact ((start.modComp i _).modBay b f).oweAttempt b
  | requestDispatch =>
    rcases ownRequestDispatch_effect r s with e | ⟨b, e⟩ <;> rw [RequestKind.owner, e]
    · exact .refl s
    · exact start.dispatch b
  | cancelBinding =>
    rcases ownCancelBinding_effect r s with e | ⟨c, e⟩ <;> rw [RequestKind.owner, e]
    · exact .refl s
    · exact start.giveBindingBack c
  | startRun =>
    rcases ownStartRun_effect r s with e | ⟨c, x, n, e⟩ <;> rw [RequestKind.owner, e]
    · exact .refl s
    · exact (start.setRun c x n).beginStep c 1
  | startRehearsal =>
    rcases ownStartRehearsal_effect r s with e | ⟨c, x, e⟩ <;> rw [RequestKind.owner, e]
    · exact .refl s
    · exact ((start.modChan c _).setRun c x 0).beginStep c 1
  | abortRun =>
    rcases ownAbortRun_effect r s with e | ⟨c, e | ⟨l, e⟩⟩ <;> rw [RequestKind.owner, e]
    · exact .refl s
    · exact start.giveBindingBack c
    · exact start.stopRun c l
  | clearFault =>
    rcases ownClearFault_effect r s with e | ⟨c, e⟩ <;> rw [RequestKind.owner, e]
    · exact .refl s
    · exact start.enterIdle c
  | serviceEnter =>
    rcases ownServiceEnter_effect r s with e | ⟨c, x, e⟩ <;> rw [RequestKind.owner, e]
    · exact .refl s
    · exact start.setChan c x
  | serviceLatch =>
    rcases ownServiceLatch_effect r s with e | ⟨c, x, e⟩ <;> rw [RequestKind.owner, e]
    · exact .refl s
    · exact start.setChan c x
  | serviceClaim =>
    rcases ownServiceClaim_effect r s with e | ⟨c, u, e⟩ <;> rw [RequestKind.owner, e]
    · exact .refl s
    · exact start.lodgeClaim c _ u
  | serviceRelease =>
    rcases ownServiceRelease_effect r s with e | ⟨c, e⟩ <;> rw [RequestKind.owner, e]
    · exact .refl s
    · exact start.giveBack c
  | serviceExit =>
    rcases ownServiceExit_effect r s with e | ⟨c, e⟩ <;> rw [RequestKind.owner, e]
    · exact .refl s
    · exact (start.enterIdle c).giveBack c
  | inspect =>
    rcases ownInspect_effect r s with e | ⟨b, l, i, -, -, e⟩ <;> rw [RequestKind.owner, e]
    · exact .refl s
    · exact start.startInspection b l i
  | cancelInspect =>
    rcases ownCancelInspect_effect r s with e | ⟨l, x, -, e⟩ <;> rw [RequestKind.owner, e]
    · exact .refl s
    · exact ((start.closeLine l none).reportNoJudgement x.comp).finishInspection l x _
  | authorizeFill =>
    rcases ownAuthorizeFill_effect r s with e | ⟨l, x, -, -, e⟩ <;> rw [RequestKind.owner, e]
    · exact .refl s
    · exact start.authorize l x
  | stopFill =>
    rcases ownStopFill_effect r s with e | ⟨l, e⟩ <;> rw [RequestKind.owner, e]
    · exact .refl s
    · exact start.closeLane l _
  | _ => exact nomatch hk

/-- A request that neither writes the configuration nor reads it record by record keeps the configuration. -/
theorem owner_quiet {k : RequestKind} (hk : k.configures = false) (hb : k.readsByRecord = false) (r : Request) (s : State) :
    Quiet s (k.owner r s).1 := by
  cases hw : k.works with
  | true => exact .of_kept (owner_kept hw r s)
  | false =>
    cases hr : k.reads with
    | true => rw [owner_reads hr]; exact .refl s
    | false =>
      cases k with
      | depart =>
        rcases ownDepart_effect r s with e | ⟨i, x, -, -, hd, e⟩ <;> rw [RequestKind.owner, e]
        · exact .refl s
        · exact .departTanker s i hd
      | takeDeparture =>
        rcases ownTakeDeparture_effect r s with e | ⟨d, ds, hd, h⟩
        · rw [RequestKind.owner, e]; exact .refl s
        · have taken : Quiet s { s with departures := ds } := (Quiet.refl s).setDepartures fun h => by
            rw [DeparturesFit, hd] at h
            exact (Nat.le_succ _).trans h
          rcases h with e | e <;> rw [RequestKind.owner, e]
          · exact taken
          · exact taken.kept ((Kept.refl _).raiseNotice ..)
      | setTokenAllowance =>
        rcases ownSetTokenAllowance_effect r s with e | ⟨c, n, e⟩ <;> rw [RequestKind.owner, e]
        · exact .refl s
        · refine (Quiet.refl s).setPlant rfl rfl (fun h d => ?_) id
          dsimp only
          rw [put_get]
          split <;> [exact Nat.le_refl n; exact h d]
      | fetchNotice =>
        rcases ownFetchNotice_effect r s with e | ⟨n, e⟩ <;> rw [RequestKind.owner, e]
        · exact .refl s
        · exact (Quiet.refl s).modPort _ fun q => PortMove.fetched q _
      | setNoticeMask =>
        rcases ownSetNoticeMask_effect r s with e | ⟨i, m, e⟩ <;> rw [RequestKind.owner, e]
        · exact .refl s
        · exact (Quiet.refl s).modPort _ fun q => ⟨id, id, id, id, id, id⟩
      | portStatus =>
        rcases ownPortStatus_effect r s with e | e <;> rw [RequestKind.owner, e]
        · exact .refl s
        · exact (Quiet.refl s).modPort _ PortMove.clearCounters
      | _ => simp [RequestKind.configures, RequestKind.readsByRecord, RequestKind.reads, RequestKind.works] at hk hb hr hw

theorem owner_bookkept (k : RequestKind) (r : Request) (s : State) : Bookkept s (k.owner r s).1 := by
  cases hk : k.configures with
  | true => exact owner_configures hk r s
  | false =>
    cases hb : k.readsByRecord with
    | false => exact (owner_quiet hk hb r s).toBookkept
    | true =>
      cases k with
      | book => exact (Amended.ownBook s ⟨r, []⟩).toBookkept
      | park => exact (Amended.ownPark s ⟨r, []⟩).toBookkept
      | _ => exact nomatch hb

/-! ## All the commands -/

/-- A command that may change the configuration or the yard-open flag. -/
def mayConfigure (c : Instr) : Prop :=
  (∃ x, c = .powerOnReset x) ∨ (∃ x, c = .book x ∨ c = .park x) ∨ ∃ k r, k.configures = true ∧ c = request k r

/-- What every command does: it answers a next state, keeps the laws, and keeps the configuration where it is none that writes it. -/
structure Answers (c : Instr) (s t : State) : Prop where
  next : exec c s = .next t
  bookkept : Bookkept s t
  quiet : ¬mayConfigure c → Quiet s t

/-- A command is answered, with what every command does. -/
def Served (c : Instr) (s : State) : Prop := ∃ t, Answers c s t

/-- An event that is none of those that write the configuration. -/
theorem Served.of_live {c : Instr} {s : State} {f : State → State} (hc : exec c s = live s f) (h : Quiet s (f s)) : Served c s := by
  have kept : Quiet s (if s.resetPin = true then s else f s) := by
    split <;> [exact .refl s; exact h]
  exact ⟨_, hc, kept.toBookkept, fun _ => kept⟩

theorem Served.of_next {c : Instr} {s t : State} (hc : exec c s = .next t) (h : Quiet s t) : Served c s :=
  ⟨t, hc, h.toBookkept, fun _ => h⟩

/-- A request that its port takes in whatever state it is. -/
theorem Served.of_request {c : Instr} {k : RequestKind} {r : Request} {owner : State → Taken} {s : State}
    (hc : exec c s = takeRequest k r owner s) (book : ∀ u, Bookkept u (owner u).1)
    (quiet : ¬mayConfigure c → ∀ u, Quiet u (owner u).1) : Served c s := by
  refine ⟨_, hc, ?_, fun hq => ?_⟩
  · split <;> [exact .refl s; exact (Bookkept.refl s).serveRequest _ _ book]
  · split
    · exact .refl s
    · exact (Quiet.refl s).serve _ _ fun u => permitted_keeps (P := Quiet u) (.refl u) (quiet hq u)

theorem served (s : State) : ForEachCommand fun c => Served c s where
  request k r := by
    refine .of_request (request_exec k r s) (owner_bookkept k r) fun hq u => ?_
    cases hk : k.configures with
    | true => exact absurd (.inr (.inr ⟨k, r, hk, rfl⟩)) hq
    | false =>
      cases hb : k.readsByRecord with
      | false => exact owner_quiet hk hb r u
      | true =>
        cases k with
        | book => exact absurd (.inr (.inl ⟨⟨r, []⟩, .inl rfl⟩)) hq
        | park => exact absurd (.inr (.inl ⟨⟨r, []⟩, .inr rfl⟩)) hq
        | _ => exact nomatch hb
  book x := .of_request (k := .book) (r := x.request) rfl (fun u => (Amended.ownBook u x).toBookkept)
    fun hq => absurd (.inr (.inl ⟨x, .inl rfl⟩)) hq
  park x := .of_request (k := .park) (r := x.request) rfl (fun u => (Amended.ownPark u x).toBookkept)
    fun hq => absurd (.inr (.inl ⟨x, .inr rfl⟩)) hq
  dispatchAttempt b := .of_live rfl (.of_kept ((Kept.refl s).dispatchOwed b))
  badKindRequest kind r := by
    refine .of_live (f := fun u => if namesNoRequest kind then Machine.serve kind r (refuse .badKind) u else
      Machine.takeOwnStatus r.port u (u.modPort r.port fun q => q.complete kind r.tag r.payload)) rfl ?_
    split
    · exact (Quiet.refl s).serve _ _ fun u => .refl u
    · exact ((Quiet.refl s).modPort _ fun q => PortMove.complete ..).takeOwnStatus ..
  powerOnReset x := ⟨powerOn x s, rfl, powerOn_bookkept x s, fun hq => absurd (.inl ⟨x, rfl⟩) hq⟩
  frameDropped p cause := .of_live (f := fun u => u.modPort p fun q => q.drop cause) rfl
    ((Quiet.refl s).modPort p fun q => PortMove.drop q cause)
  gapTimeout p := .of_live (f := fun u => u.modPort p fun q => q.gapOut) rfl ((Quiet.refl s).modPort p PortMove.gapOut)
  frameOverrun p := .of_live (f := fun u => u.modPort p fun q => q.overrunHeld) rfl
    ((Quiet.refl s).modPort p PortMove.overrunHeld)
  answerSent p := .of_live (f := fun u => u.modPort p fun q => q.sent) rfl ((Quiet.refl s).modPort p PortMove.sent)
  secondTick first := .of_live rfl (.takeSecond first s)
  minuteTick := by
    refine .of_live (f := minuteOut) rfl ?_
    unfold minuteOut
    split <;> [exact (Quiet.refl s).takeMinute; exact .refl s]
  refresh := by
    refine .of_live (f := refreshOut) rfl ?_
    unfold refreshOut
    split <;> [exact (Quiet.refl s).takeRefresh; exact .refl s]
  passTimerExpiry c := .of_live rfl (.of_kept ((Kept.refl s).passTimerOut c))
  runningTimeExpiry c := .of_live rfl (.of_kept ((Kept.refl s).runningTimeOut c))
  flowMeterPulse c := .of_live rfl (.of_kept ((Kept.refl s).flowPulse c))
  guardExpiry c := .of_live rfl (.of_kept ((Kept.refl s).guardOut c))
  dischargePermitDrop d := by
    have level : Quiet s { s with permit := false } :=
      ⟨⟨id, id, id, id, id, id, id, id, rfl⟩, ⟨rfl, rfl, rfl, rfl, rfl, rfl, rfl⟩, rfl, rfl⟩
    refine .of_next (t := if s.resetPin then { s with permit := false } else permitDrop d s) rfl ?_
    split
    · exact level
    · exact level.foldl _ (fun u c => .of_kept ((Kept.refl u).permitDropOn d.met c)) _
  dischargePermitReturn := by
    refine .of_next (t := if s.resetPin then { s with permit := true } else permitReturn s) rfl ?_
    split <;> exact ⟨⟨id, id, id, id, id, id, id, id, rfl⟩, ⟨rfl, rfl, rfl, rfl, rfl, rfl, rfl⟩, rfl, rfl⟩
  pauseLimitExpiry c := .of_live rfl (.of_kept ((Kept.refl s).pauseOut c))
  headInDrop c := by
    refine .of_next (t := if s.resetPin then setHeadIn c false s else headDrop c s) rfl ?_
    split <;> [exact .of_kept ((Kept.refl s).setHeadIn c _); exact .of_kept ((Kept.refl s).headDrop c)]
  headInRise c := .of_next rfl (.of_kept ((Kept.refl s).setHeadIn c _))
  drainDownExpiry c := .of_live rfl (.of_kept ((Kept.refl s).drainOut c))
  pdockChange l level := by
    refine .of_next (t := if s.resetPin then s.modLine l fun x => { x with pdock := level } else pdockLevel l level s) rfl ?_
    split <;> [exact .of_kept ((Kept.refl s).modLine l _); exact .of_kept ((Kept.refl s).pdockLevel l level)]
  dockDebounceExpiry l := .of_live rfl (.of_kept ((Kept.refl s).debounceOut l))
  powerUpExpiry l := .of_live rfl (.of_kept ((Kept.refl s).powerUpOut l))
  resetLengthExpiry l := .of_live rfl (.of_kept ((Kept.refl s).resetLengthOut l))
  syncTimeout l := .of_live rfl (.of_kept ((Kept.refl s).syncOut l))
  openLimitExpiry l := .of_live rfl (.of_kept ((Kept.refl s).openLimitOut l))
  probeCharacterReceived l ch := .of_live rfl (.of_kept ((Kept.refl s).probeCharacter l ch))
  openingReply l := .of_live rfl (.of_kept ((Kept.refl s).replyReceived l))
  blockSendStart l := .of_live rfl (.of_kept ((Kept.refl s).startBlock l))
  characterSent l e := .of_live rfl (.of_kept ((Kept.refl s).endCharacter l e))
  blockWaitExpiry l := .of_live rfl (.of_kept ((Kept.refl s).blockWaitOut l))
  charWaitExpiry l := .of_live rfl (.of_kept ((Kept.refl s).charWaitOut l))
  blockReceived l := .of_live rfl (.of_kept ((Kept.refl s).blockReceived l))
  offTimerExpiry l := .of_live rfl (.of_kept ((Kept.refl s).offOut l))
  laneMeterPulse l := .of_live rfl (.of_kept ((Kept.refl s).meterPulse l))
  noFlowExpiry l := .of_live rfl (.of_kept ((Kept.refl s).noFlowOut l))
  armDrop l := by
    refine .of_next (t := if s.resetPin then setArm l false s else closeLane l .armLost (setArm l false s)) rfl ?_
    split <;> [exact .of_kept ((Kept.refl s).setArm l _); exact .of_kept (((Kept.refl s).setArm l _).closeLane l _)]
  armRise l := .of_next rfl (.of_kept ((Kept.refl s).setArm l _))
  settleExpiry l := .of_live rfl (.of_kept ((Kept.refl s).settleOut l))
  portCharacterReceived p ch := .of_live (f := fun u => Machine.takeOwnStatus p u (u.modPort p fun q => q.receive ch)) rfl
    (((Quiet.refl s).modPort p fun q => PortMove.receive q ch).takeOwnStatus ..)
  resetPinAsserted := .of_next rfl ⟨⟨id, id, id, id, id, id, id, id, rfl⟩, ⟨rfl, rfl, rfl, rfl, rfl, rfl, rfl⟩, rfl, rfl⟩

theorem exec_served (c : Instr) (s : State) : Served c s := (served s).all c

theorem Bookkept.exec {c : Instr} {s t : State} (h : exec c s = .next t) : Bookkept s t := by
  obtain ⟨u, hu⟩ := exec_served c s
  exact Host.Outcome.next.inj (hu.next.symm.trans h) ▸ hu.bookkept

theorem Quiet.exec {c : Instr} {s t : State} (hc : ¬mayConfigure c) (h : exec c s = .next t) : Quiet s t := by
  obtain ⟨u, hu⟩ := exec_served c s
  exact Host.Outcome.next.inj (hu.next.symm.trans h) ▸ hu.quiet hc

end Sys2Proof.Machine
end

section
/-! The bookkeeping, the grants and the configuration through every step; every command answers; the configuration is changed by its own
requests alone. -/

namespace Sys2Proof.Machine

open Sys2Proof (Byte Comp Tanker Bay Chan RecipeSlot CargoClass Line Lane Port)

/-! ## Every step -/

/-- A step keeps the laws of its state, whatever stands in the command queue. -/
theorem step_bookkept {s t : State} (h : step s = .next t) : ∃ q, Bookkept { s with pending := q } t := by
  rcases step_cases h with ⟨-, rfl⟩ | ⟨c, rest, -, he⟩
  · refine ⟨s.pending, ?_⟩
    unfold idle
    split
    · exact .refl s
    · refine ((Quiet.refl s).setClock (c := { s.clock with period := countUp (Config.periodsPerSecond - 1) s.clock.period })
        fun ⟨second, minute, period⟩ => ⟨second, minute, ?_⟩).toBookkept
      exact Nat.lt_succ_of_le (countUp_le (Nat.le_of_lt_succ period))
  · exact ⟨rest, .exec he⟩

/-- Settles O55: every command keeps each law of the bookkeeping, the last two by the moves of the tanker register and the arbiter. -/
theorem stepKeepsBookkeeping : Obligations.StepKeepsBookkeeping := by
  intro s t h inRange departures tokens clock counters notices lists priority
  obtain ⟨q, k⟩ := step_bookkept h
  have order : ListsDistinct t ∧ PriorityComplete t :=
    (step_laws h).elim (fun k => ⟨k.lists lists, k.priority priority⟩) fun ⟨a, b, _⟩ => ⟨a, b⟩
  exact ⟨k.inRange inRange, k.departures departures, k.tokens tokens, k.clock clock, k.counters counters, k.notices notices, order⟩

/-- Settles O56: every command keeps the grants within the capacity. -/
theorem stepKeepsGrantsWithinCapacity : Obligations.StepKeepsGrantsWithinCapacity := by
  intro s t h grants
  obtain ⟨q, k⟩ := step_bookkept h
  exact k.grants grants

/-- Settles O57: every command keeps the slots, the staging buffer and the cells that name slots. -/
theorem stepKeepsConfigurationSound : Obligations.StepKeepsConfigurationSound := by
  intro s t h sound
  obtain ⟨q, k⟩ := step_bookkept h
  exact k.configuration sound

/-- Settles O3: every arm of the dispatch gives a next state, and no effect touches the command queue. -/
theorem everyCommandAnswersNext : Obligations.EveryCommandAnswersNext := by
  intro c s
  obtain ⟨t, h⟩ := exec_served c s
  exact ⟨t, h.next, h.bookkept.pending⟩

/-! ## What writes each part of the configuration -/

/-- The configuration and the yard-open flag but for the part that a request writes are as they were. -/
structure Configured (k : RequestKind) (s t : State) : Prop where
  matrix : k ≠ .writeMatrixRow → t.matrix = s.matrix
  limits : k ≠ .writeLimits → t.limits = s.limits
  recipes : k ≠ .commitRecipe → k ≠ .eraseRecipe → t.recipes = s.recipes
  staging : k ≠ .clearStaging → k ≠ .writeStagingStep → k ≠ .setStagingRounds → k ≠ .loadStaging → t.staging = s.staging
  settings : k ≠ .setYard → t.settings = s.settings
  hotCapacity : k ≠ .setHotCapacity → t.plant.hotCapacity = s.plant.hotCapacity
  scheme : k ≠ .setPriorityScheme → t.plant.scheme = s.plant.scheme
  portRate : t.portRate = s.portRate
  yardOpen : k ≠ .openYard → k ≠ .yardReset → t.yardOpen = s.yardOpen

namespace Configured

variable {k : RequestKind} {s t u : State}

theorem of_quiet (h : Quiet s t) : Configured k s t :=
  ⟨fun _ => h.matrix, fun _ => h.limits, fun _ _ => h.recipes, fun _ _ _ _ => h.staging, fun _ => h.settings,
    fun _ => h.hotCapacity, fun _ => h.scheme, h.portRate, fun _ _ => h.yardOpen⟩

theorem refl (s : State) : Configured k s s := of_quiet (.refl s)

theorem trans (h : Configured k s t) (h' : Configured k t u) : Configured k s u :=
  ⟨fun a => (h'.matrix a).trans (h.matrix a), fun a => (h'.limits a).trans (h.limits a),
    fun a b => (h'.recipes a b).trans (h.recipes a b), fun a b c d => (h'.staging a b c d).trans (h.staging a b c d),
    fun a => (h'.settings a).trans (h.settings a), fun a => (h'.hotCapacity a).trans (h.hotCapacity a),
    fun a => (h'.scheme a).trans (h.scheme a), h'.portRate.trans h.portRate,
    fun a b => (h'.yardOpen a b).trans (h.yardOpen a b)⟩

theorem changeHotCapacity (n : Nat) (s : State) : Configured .setHotCapacity s (changeHotCapacity n s) := by
  have set : Configured .setHotCapacity s (s.setPlant { s.plant with hotCapacity := n }) :=
    ⟨fun _ => rfl, fun _ => rfl, fun _ _ => rfl, fun _ _ _ _ => rfl, fun _ => rfl, fun h => absurd rfl h, fun _ => rfl, rfl, fun _ _ => rfl⟩
  exact set.trans (of_quiet (.of_kept ((Kept.refl _).foldl _ Kept.dropClaim _).arbitrate))

theorem owner {k : RequestKind} (hb : k.readsByRecord = false) (r : Request) (s : State) : Configured k s (k.owner r s).1 := by
  cases hk : k.configures with
  | false => exact of_quiet (owner_quiet hk hb r s)
  | true =>
    cases k with
    | writeMatrixRow =>
      rcases ownWriteMatrixRow_effect r s with e | ⟨_, _, -, -, e⟩ <;> rw [RequestKind.owner, e]
      · exact refl s
      · exact ⟨fun h => absurd rfl h, fun _ => rfl, fun _ _ => rfl, fun _ _ _ _ => rfl, fun _ => rfl, fun _ => rfl, fun _ => rfl, rfl, fun _ _ => rfl⟩
    | writeLimits =>
      rcases ownWriteLimits_effect r s with e | ⟨_, e⟩ <;> rw [RequestKind.owner, e]
      · exact refl s
      · exact ⟨fun _ => rfl, fun h => absurd rfl h, fun _ _ => rfl, fun _ _ _ _ => rfl, fun _ => rfl, fun _ => rfl, fun _ => rfl, rfl, fun _ _ => rfl⟩
    | clearStaging =>
      rcases ownClearStaging_effect r s with e | e <;> rw [RequestKind.owner, e]
      · exact refl s
      · exact ⟨fun _ => rfl, fun _ => rfl, fun _ _ => rfl, fun h => absurd rfl h, fun _ => rfl, fun _ => rfl, fun _ => rfl, rfl, fun _ _ => rfl⟩
    | writeStagingStep =>
      rcases ownWriteStagingStep_effect r s with e | ⟨_, _, -, e⟩ <;> rw [RequestKind.owner, e]
      · exact refl s
      · exact ⟨fun _ => rfl, fun _ => rfl, fun _ _ => rfl, fun _ h => absurd rfl h, fun _ => rfl, fun _ => rfl, fun _ => rfl, rfl, fun _ _ => rfl⟩
    | setStagingRounds =>
      rcases ownSetStagingRounds_effect r s with e | ⟨_, -, e⟩ <;> rw [RequestKind.owner, e]
      · exact refl s
      · exact ⟨fun _ => rfl, fun _ => rfl, fun _ _ => rfl, fun _ _ h => absurd rfl h, fun _ => rfl, fun _ => rfl, fun _ => rfl, rfl, fun _ _ => rfl⟩
    | loadStaging =>
      rcases ownLoadStaging_effect r s with e | ⟨_, _, -, e⟩ <;> rw [RequestKind.owner, e]
      · exact refl s
      · exact ⟨fun _ => rfl, fun _ => rfl, fun _ _ => rfl, fun _ _ _ h => absurd rfl h, fun _ => rfl, fun _ => rfl, fun _ => rfl, rfl, fun _ _ => rfl⟩
    | commitRecipe =>
      rcases ownCommitRecipe_effect r s with e | ⟨_, _, -, -, e⟩ <;> rw [RequestKind.owner, e]
      · exact refl s
      · exact ⟨fun _ => rfl, fun _ => rfl, fun h => absurd rfl h, fun _ _ _ _ => rfl, fun _ => rfl, fun _ => rfl, fun _ => rfl, rfl, fun _ _ => rfl⟩
    | eraseRecipe =>
      rcases ownEraseRecipe_effect r s with e | ⟨_, -, e⟩ <;> rw [RequestKind.owner, e]
      · exact refl s
      · exact ⟨fun _ => rfl, fun _ => rfl, fun _ h => absurd rfl h, fun _ _ _ _ => rfl, fun _ => rfl, fun _ => rfl, fun _ => rfl, rfl, fun _ _ => rfl⟩
    | setYard =>
      rcases ownSetYard_effect r s with e | ⟨_, _, -, e⟩ <;> rw [RequestKind.owner, e]
      · exact refl s
      · exact ⟨fun _ => rfl, fun _ => rfl, fun _ _ => rfl, fun _ _ _ _ => rfl, fun h => absurd rfl h, fun _ => rfl, fun _ => rfl, rfl, fun _ _ => rfl⟩
    | setHotCapacity =>
      rcases ownSetHotCapacity_effect r s with e | ⟨n, -, -, e⟩ <;> rw [RequestKind.owner, e]
      · exact refl s
      · exact changeHotCapacity n s
    | setPriorityScheme =>
      rcases ownSetPriorityScheme_effect r s with e | ⟨_, e⟩ <;> rw [RequestKind.owner, e]
      · exact refl s
      · exact ⟨fun _ => rfl, fun _ => rfl, fun _ _ => rfl, fun _ _ _ _ => rfl, fun _ => rfl, fun _ => rfl, fun h => absurd rfl h, rfl,
          fun _ _ => rfl⟩
    | openYard =>
      rcases ownOpenYard_effect r s with e | e <;> rw [RequestKind.owner, e]
      · exact refl s
      · exact ⟨fun _ => rfl, fun _ => rfl, fun _ _ => rfl, fun _ _ _ _ => rfl, fun _ => rfl, fun _ => rfl, fun _ => rfl, rfl,
          fun h => absurd rfl h⟩
    | yardReset =>
      rcases ownYardReset_effect r s with e | e | e <;> rw [RequestKind.owner, e]
      · exact refl s
      · exact of_quiet (.protectedReset s)
      · exact ⟨fun _ => rfl, fun _ => rfl, fun _ _ => rfl, fun _ _ _ _ => rfl, fun _ => rfl, fun _ => rfl, fun _ => rfl, rfl,
          fun _ h => absurd rfl h⟩
    | _ => exact nomatch hk

theorem modPort (h : Configured k s t) (p : Port) (f : StationPort → StationPort) : Configured k s (t.modPort p f) :=
  h.trans ⟨fun _ => rfl, fun _ => rfl, fun _ _ => rfl, fun _ _ _ _ => rfl, fun _ => rfl, fun _ => rfl, fun _ => rfl, rfl, fun _ _ => rfl⟩

/-- A request served, its port's framing around its owner. -/
theorem serveRequest {k' : RequestKind} {r : Request} {owner : State → Taken} (ho : ∀ u, Configured k u (owner u).1) (s : State) :
    Configured k s (serveRequest k' r owner s) :=
  serve_keeps (P := Configured k s) ((refl s).modPort _ _)
    (fun hu => hu.trans (permitted_keeps (P := Configured k _) (refl _) (ho _))) (fun _ _ hu => hu.modPort _ _)
    ((refl s).modPort _ _)

end Configured

theorem takeBetween_matrix {e : Between} (he : ∀ r, e ≠ .writeMatrixRow r) (s : State) : (takeBetween s e).matrix = s.matrix := by
  cases e with
  | writeMatrixRow r => exact absurd rfl (he r)
  | writeLimits r => exact (Configured.serveRequest (Configured.owner (k := .writeLimits) rfl r) s).matrix nofun
  | answerSent p => rfl

theorem takeBetween_limits {e : Between} (he : ∀ r, e ≠ .writeLimits r) (s : State) : (takeBetween s e).limits = s.limits := by
  cases e with
  | writeMatrixRow r => exact (Configured.serveRequest (Configured.owner (k := .writeMatrixRow) rfl r) s).limits nofun
  | writeLimits r => exact absurd rfl (he r)
  | answerSent p => rfl

/-- A property of the state that holds through a BOOK's or a PARK's own work and what comes between its readings. -/
theorem readingRequest_keeps {P : State → Prop} {c : Instr} {x : ReadingRequest} {s t : State} (hc : c = .book x ∨ c = .park x)
    (h : exec c s = .next t) (hs : P s) (port : ∀ u p f, P u → P (u.modPort p f))
    (gaps : ∀ l ∈ x.between, ∀ e ∈ l, ∀ u, P u → P (takeBetween u e)) (work : ∀ u v, Kept u v → P u → P v) : P t := by
  rcases hc with rfl | rfl
  · exact live_keeps (P := P) h hs <| serve_keeps (P := P) (port _ _ _ hs)
      (fun hu => permitted_keeps (P := P) hu (ownBook_keeps ⟨hu, gaps⟩ work)) (fun _ _ hu => port _ _ _ hu) (port _ _ _ hs)
  · exact live_keeps (P := P) h hs <| serve_keeps (P := P) (port _ _ _ hs)
      (fun hu => permitted_keeps (P := P) hu (ownPark_keeps ⟨hu, gaps⟩ work)) (fun _ _ hu => port _ _ _ hu) (port _ _ _ hs)

theorem readingRequest_amended {c : Instr} {x : ReadingRequest} {s t : State} (hc : c = .book x ∨ c = .park x)
    (h : exec c s = .next t) : SameStore s t := by
  refine readingRequest_keeps (P := SameStore s) hc h (.refl s) (fun u p f hu => hu.trans ⟨rfl, rfl, rfl, rfl, rfl, rfl, rfl⟩)
    (fun l _ e _ u hu => hu.trans ((Amended.refl u).takeBetween e).toSameStore) fun u v k hu => hu.trans (Quiet.of_kept k).toSameStore

/-- Settles O21: a request that writes the configuration writes its own part, a BOOK or a PARK what comes between its readings, and
every other command nothing of it. -/
theorem configurationIsKept : Obligations.ConfigurationIsKept := by
  intro c s t h power
  have heads := (Lawful.exec power h).twoHead
  by_cases hc : mayConfigure c
  · rcases hc with ⟨x, rfl⟩ | ⟨x, hx⟩ | ⟨k, r, hk, rfl⟩
    · exact absurd rfl (power x)
    · have store := readingRequest_amended hx h
      refine ⟨fun _ none => ?_, fun _ none => ?_, fun _ _ => store.recipes, fun _ _ _ _ => store.staging, fun _ => store.settings,
        fun _ => store.hotCapacity, fun _ => store.scheme, store.portRate, heads⟩
      · refine readingRequest_keeps (P := fun u => u.matrix = s.matrix) hx h rfl (fun _ _ _ hu => hu) (fun l hl e he u hu => ?_)
          fun _ _ k hu => k.matrix.trans hu
        exact (takeBetween_matrix (fun r e' => none x hx l hl r (e' ▸ he)) u).trans hu
      · refine readingRequest_keeps (P := fun u => u.limits = s.limits) hx h rfl (fun _ _ _ hu => hu) (fun l hl e he u hu => ?_)
          fun _ _ k hu => k.limits.trans hu
        exact (takeBetween_limits (fun r e' => none x hx l hl r (e' ▸ he)) u).trans hu
    · have byRecord : k.readsByRecord = false := readsByRecord_of_configures hk
      have done : Configured k s t :=
        live_keeps (P := Configured k s) ((request_exec k r s).symm.trans h) (.refl s) (.serveRequest (Configured.owner byRecord r) s)
      exact ⟨fun a _ => done.matrix fun e => a r (e ▸ rfl), fun a _ => done.limits fun e => a r (e ▸ rfl),
        fun a b => done.recipes (fun e => a r (e ▸ rfl)) fun e => b r (e ▸ rfl),
        fun a b c d => done.staging (fun e => a r (e ▸ rfl)) (fun e => b r (e ▸ rfl)) (fun e => c r (e ▸ rfl)) fun e => d r (e ▸ rfl),
        fun a => done.settings fun e => a r (e ▸ rfl), fun a => done.hotCapacity fun e => a r (e ▸ rfl),
        fun a => done.scheme fun e => a r (e ▸ rfl), done.portRate, heads⟩
  · have quiet := Quiet.exec hc h
    exact ⟨fun _ _ => quiet.matrix, fun _ _ => quiet.limits, fun _ _ => quiet.recipes, fun _ _ _ _ => quiet.staging,
      fun _ => quiet.settings, fun _ => quiet.hotCapacity, fun _ => quiet.scheme, quiet.portRate, heads⟩

end Sys2Proof.Machine
end

section
/-! The steps, the values after a power-on, and a part held in reset. -/

namespace Sys2Proof.Machine

open Sys2Proof (Byte Comp Tanker Bay Chan RecipeSlot CargoClass Line Lane Port)

/-! ## Steps (log 1) -/

/-- Settles O1: the step's second branch. -/
theorem stepTakesFrontCommand : Obligations.StepTakesFrontCommand := by
  intro c rest s h
  simp only [step, h]

/-- Settles O2: the step's first branch, the period counted up to the end of the second. -/
theorem stepOnEmptyQueue : Obligations.StepOnEmptyQueue := by
  intro s h
  have idles : step s = .next (idle s) := by simp only [step, h]
  rw [idles, idle]
  by_cases hp : s.resetPin = true
  · rw [if_pos hp, if_pos hp]
  · rw [if_neg hp, if_neg hp]
    by_cases hlast : s.clock.period < 15999999
    · rw [if_pos hlast, show countUp (Config.periodsPerSecond - 1) s.clock.period = s.clock.period + 1 from if_pos hlast]
    · rw [if_neg hlast, show countUp (Config.periodsPerSecond - 1) s.clock.period = s.clock.period from if_neg hlast]

/-! ## The state after a power-on (R24, R39, R56, R74, R101, R119, R143, R159, R174, R176) -/

section PowerOn

variable (x : Straps) (permit : Bool) (headIn : Vector Bool 8) (pdock arm : Vector Bool 2) (pending : List Instr)

@[simp] theorem powerOn_comp (i : Comp) : (State.powerOn x permit headIn pdock arm pending).comp i = CompartmentRecord.freed := by
  simp [State.powerOn, State.comp]

@[simp] theorem powerOn_tanker (i : Tanker) : (State.powerOn x permit headIn pdock arm pending).tanker i = none := by
  simp [State.powerOn, State.tanker]

@[simp] theorem powerOn_recipe (i : RecipeSlot) : (State.powerOn x permit headIn pdock arm pending).recipe i = none := by
  simp [State.powerOn, State.recipe]

@[simp] theorem powerOn_cell (a b : CargoClass) :
    (State.powerOn x permit headIn pdock arm pending).cell a b = if a = b ∧ a ≠ 0 then .none else .barred := matrixPowerOn_get a b

@[simp] theorem powerOn_setting (y : Setting) : (State.powerOn x permit headIn pdock arm pending).setting y = y.powerOn :=
  settingsPowerOn_get y

@[simp] theorem powerOn_bay (b : Bay) :
    (State.powerOn x permit headIn pdock arm pending).bay b = ⟨x.heads[b], none, [], 0⟩ := by
  simp [State.powerOn, State.bay]

@[simp] theorem powerOn_chan (c : Chan) :
    (State.powerOn x permit headIn pdock arm pending).chan c = WashChannel.afterReset (fittedState x c) headIn[c] := by
  simp [State.powerOn, State.chan]

@[simp] theorem powerOn_line (l : Line) : (State.powerOn x permit headIn pdock arm pending).line l = ProbeLine.powerOn pdock[l] := by
  simp [State.powerOn, State.line]

@[simp] theorem powerOn_inspection (l : Line) : (State.powerOn x permit headIn pdock arm pending).inspection l = none := by
  simp [State.powerOn, State.inspection]

@[simp] theorem powerOn_lane (l : Lane) : (State.powerOn x permit headIn pdock arm pending).lane l = FillLane.powerOn arm[l] := by
  simp [State.powerOn, State.lane]

@[simp] theorem powerOn_port (p : Port) : (State.powerOn x permit headIn pdock arm pending).port p = StationPort.powerOn := by
  simp [State.powerOn, State.port]

end PowerOn

theorem fittedState_headA (x : Straps) (b : Bay) : fittedState x (headA b) = .idle := by
  simp [fittedState, headA]

theorem fittedState_headB (x : Straps) (b : Bay) : fittedState x (headB b) = if x.heads[b] = true then .idle else .unfitted := by
  have half : (2 * b.val + 1) / 2 = b.val := by omega
  have odd : (2 * b.val + 1) % 2 = 1 := by omega
  simp only [fittedState, headB, half, odd, true_and]
  cases x.heads[b] <;> rfl

theorem fittedState_or (x : Straps) (c : Chan) : fittedState x c = .idle ∨ fittedState x c = .unfitted := by
  unfold fittedState; split <;> [exact .inr rfl; exact .inl rfl]

/-- Settles O4: the tables of a power-on hold one value throughout. -/
theorem powerOnRecordsAndConfiguration : Obligations.PowerOnRecordsAndConfiguration := by
  refine ⟨fun x s => ⟨powerOn x s, rfl, fun i => ?_, fun i => ?_, rfl, rfl, rfl, rfl, fun r hr => ?_⟩,
    fun x s => ⟨powerOn x s, rfl, fun a b => ?_, fun i => ?_, fun i => ?_, rfl, rfl, fun i => ?_, ?_⟩⟩
  · simp [powerOn, CompartmentRecord.freed]
  · simp [powerOn]
  · have listening : Listening (powerOn x s) r.port := ⟨rfl, by simp [powerOn, StationPort.powerOn]⟩
    exact exec_book_refused ⟨listening, by rw [hr]; rfl⟩ (ownBook_notOpen _ rfl)
  · simp [powerOn]
  · simp [powerOn, State.powerOn, LimitEntry.powerOn]
  · simp [powerOn]
  · simp [powerOn, State.powerOn, Staging.empty]
  · simp [powerOn, Setting.all, Setting.powerOn]

/-- Settles O5: each block of a power-on is made of one power-on value, with its strap or its input. -/
theorem powerOnBlocks : Obligations.PowerOnBlocks := by
  refine ⟨fun x s => ⟨powerOn x s, rfl, fun b => ?_, fun b => ?_, fun c => ⟨?_, ?_⟩, rfl, rfl, rfl, rfl, fun c => ?_, ?_, rfl⟩,
    fun x s => ⟨powerOn x s, rfl, fun l => ?_, rfl, fun l => ⟨?_, ?_⟩, fun p => ⟨?_, ?_⟩, rfl, rfl, rfl⟩⟩
  · simp [powerOn]
  · simp [powerOn, WashChannel.afterReset, fittedState_headA, fittedState_headB]
  · simp [powerOn, WashChannel.afterReset, Lines.closed]
  · rcases fittedState_or x c with h | h <;> simp [powerOn, valveLines, WashChannel.afterReset, h, Lines.closed]
  · simp [powerOn, State.powerOn, Plant.powerOn]
  · show Plant.powerOn.free = _
    decide
  · simp [powerOn, ProbeLine.powerOn, Exchange.empty, LineTimers.stopped, lineOutputs, Setting.powerOn]
  · simp [powerOn, FillLane.powerOn]
  · simp [powerOn, FillLane.powerOn, valveOpen]
  · simp [powerOn, StationPort.powerOn]
  · simp [powerOn, StationPort.powerOn, attn, StationPort.waiting]

/-- Settles O6: the reset state is a power-on, of itself as well, and the laws hold after every power-on. -/
theorem resetStateAndLaws : Obligations.ResetStateAndLaws := by
  obtain ⟨inRange, departures, tokens, clock, counters, notices, grants, configuration⟩ :=
    powerOn_bookkeeping Straps.default false (Vector.replicate 8 false) (Vector.replicate 2 false) (Vector.replicate 2 false) []
  obtain ⟨lists, priority, records, lanes, lines⟩ :=
    powerOn_laws Straps.default false (Vector.replicate 8 false) (Vector.replicate 2 false) (Vector.replicate 2 false) []
  refine ⟨⟨?_, rfl, fun c => ?_, fun l => ?_, fun l => ?_, rfl⟩, inRange, departures, tokens, clock, counters, notices, lists,
    priority, grants, configuration, records, lanes, lines⟩
  · have inputs : (Vector.ofFn fun c : Chan => (State.reset.chan c).headIn) = Vector.replicate 8 false
        ∧ (Vector.ofFn fun l : Line => (State.reset.line l).pdock) = Vector.replicate 2 false
        ∧ (Vector.ofFn fun l : Lane => (State.reset.lane l).arm) = Vector.replicate 2 false := by
      refine ⟨Vector.ext fun i hi => ?_, Vector.ext fun i hi => ?_, Vector.ext fun i hi => ?_⟩
      · simp [State.reset, WashChannel.afterReset]
      · simp [State.reset, ProbeLine.powerOn]
      · simp [State.reset, FillLane.powerOn]
    obtain ⟨heads, docks, arms⟩ := inputs
    show Host.Outcome.next (powerOn _ State.reset) = _
    rw [powerOn, heads, docks, arms]
    rfl
  · simp [State.reset, WashChannel.afterReset]
  · simp [State.reset, ProbeLine.powerOn]
  · simp [State.reset, FillLane.powerOn]

/-! ## A part held in reset (R176; log 22) -/

theorem exec_of_reset {s : State} (h : s.resetPin = true) {c : Instr} (hc : takenInReset c = false) : exec c s = .next s := by
  cases c with
  | powerOnReset | pdockChange | dischargePermitDrop | dischargePermitReturn | headInDrop | headInRise | armDrop | armRise =>
    exact nomatch hc
  | resetPinAsserted =>
    show Host.Outcome.next { s with resetPin := true } = _
    rw [← h]
  | badKindRequest kind r =>
    exact live_of_reset h fun t => if namesNoRequest kind then serve kind r (refuse .badKind) t
      else takeOwnStatus r.port t (t.modPort r.port fun q => q.complete kind r.tag r.payload)
  | frameDropped p cause => exact live_of_reset h fun t => t.modPort p fun q => q.drop cause
  | gapTimeout p => exact live_of_reset h fun t => t.modPort p StationPort.gapOut
  | frameOverrun p => exact live_of_reset h fun t => t.modPort p StationPort.overrunHeld
  | answerSent p => exact live_of_reset h fun t => t.modPort p StationPort.sent
  | portCharacterReceived p ch => exact live_of_reset h fun t => takeOwnStatus p t (t.modPort p fun q => q.receive ch)
  | _ => exact live_of_reset h _

/-- Settles O7: the outputs ask for the pin first, and events and requests leave a part held in reset as it is. -/
theorem resetPinHoldsThePart : Obligations.ResetPinHoldsThePart := by
  refine ⟨fun s => ⟨rfl, fun h => ⟨fun c => ?_, fun l => ?_, fun l => ?_, fun p => ?_⟩⟩,
    fun s h => ⟨fun c hc => ?_, fun l level => ?_, fun order met => ?_, ?_, fun c => ⟨?_, rfl⟩, fun l => ⟨?_, rfl⟩⟩⟩
  · simp [valveLines, h, Lines.closed]
  · simp [valveOpen, h]
  · simp [lineOutputs, h]
  · simp [attn, h]
  · rw [exec_of_reset h hc, ← h]
  · exact congrArg _ (if_pos h)
  · exact congrArg _ (if_pos h)
  · exact congrArg _ (if_pos h)
  · exact congrArg _ (if_pos h)
  · exact congrArg _ (if_pos h)

end Sys2Proof.Machine
end

section
/-! YARD_RESET: what both resets do to the blocks, the notices and the records that a protected one moves, and what an unprotected one
leaves (R24 to R26, R101, R119, R143, R174, R176, R186). -/

namespace Sys2Proof.Machine

open Sys2Proof (Byte Comp Tanker Bay Chan RecipeSlot CargoClass Line Lane Port)

theorem officePort_of_role {p : Port} (h : portRole p = .office) : p = officePort := by
  unfold portRole at h
  split at h
  · next h0 => exact Fin.ext h0
  · split at h <;> exact nomatch h

theorem office_of_yardReset {s : State} {r : Request} (h : Asked s .yardReset r) : r.port = officePort := by
  have role : Access.office.admits (portRole r.port) = true := h.2
  refine officePort_of_role ?_
  cases hr : portRole r.port with
  | office => rfl
  | bay b => rw [hr] at role; exact nomatch role
  | fill => rw [hr] at role; exact nomatch role

theorem exec_yardReset_protected {r : Request} {s : State} (h : Asked s .yardReset r) (hp : r.payload = [1]) :
    exec (.yardReset r) s = .next ((protectedReset (s.taking .yardReset r)).answering .yardReset r ⟨.ok, []⟩) := by
  have ho : ownYardReset r (s.taking .yardReset r) = accept [] (protectedReset (s.taking .yardReset r)) := by
    simp only [ownYardReset, hp]
    rfl
  refine (takeRequest_permitted h.1 h.2 _).trans ?_
  rw [ho]
  rfl

theorem exec_yardReset_unprotected {r : Request} {s : State} (h : Asked s .yardReset r) (hp : r.payload = [0]) :
    exec (.yardReset r) s = .next ((unprotectedReset (s.taking .yardReset r)).answering .yardReset r ⟨.ok, []⟩) := by
  have ho : ownYardReset r (s.taking .yardReset r) = accept [] (unprotectedReset (s.taking .yardReset r)) := by
    simp only [ownYardReset, hp]
    rfl
  refine (takeRequest_permitted h.1 h.2 _).trans ?_
  rw [ho]
  rfl

/-! ## The blocks of either reset -/

/-- The blocks but for the records, the register, the queues and the ports are those of a yard reset, from `s`. -/
structure BlocksReset (s t : State) : Prop where
  channels : t.channels = (resetBlocks s).channels
  plant : t.plant = s.plant.afterYardReset
  lines : t.lines = (resetBlocks s).lines
  inspections : t.inspections = Vector.replicate 2 none
  lanes : t.lanes = (resetLanes s).lanes
  clock : t.clock = s.clock
  permit : t.permit = s.permit
  portRate : t.portRate = s.portRate
  bays : ∀ b, (t.bay b).twoHead = (s.bay b).twoHead ∧ (t.bay b).owed = 0

namespace BlocksReset

variable {s t : State}

theorem of_protected (s : State) : BlocksReset s (protectedReset s) := by
  rw [protectedReset_fields]
  generalize (protectedReset s).comps = comps, (protectedReset s).ports = ports
  refine ⟨rfl, rfl, rfl, rfl, rfl, rfl, rfl, rfl, fun b => ?_⟩
  have heads := congrArg BayState.twoHead (bay_resetBlocks s b)
  have owed := congrArg BayState.owed (bay_resetBlocks s b)
  exact ⟨heads, owed⟩

theorem bay_unprotectedReset (s : State) (b : Bay) : (unprotectedReset s).bay b = ⟨(s.bay b).twoHead, none, [], 0⟩ := by
  simp [unprotectedReset, resetLanes, resetBlocks, State.bay]

theorem of_unprotected (s : State) : BlocksReset s (unprotectedReset s) :=
  ⟨rfl, rfl, rfl, rfl, rfl, rfl, rfl, rfl, fun b => by rw [bay_unprotectedReset]; exact ⟨rfl, rfl⟩⟩

theorem answered {k k' : RequestKind} {r : Request} {x : Reply} (h : BlocksReset (s.taking k r) t) :
    BlocksReset s (t.answering k' r x) :=
  ⟨h.channels, h.plant, h.lines, h.inspections, h.lanes, h.clock, h.permit, h.portRate, h.bays⟩

theorem chan (h : BlocksReset s t) (c : Chan) : t.chan c = (s.chan c).afterYardReset := by
  simp [State.chan, h.channels, resetBlocks]

theorem line (h : BlocksReset s t) (l : Line) : t.line l = (s.line l).afterYardReset (s.setting .powerOffTime) := by
  rw [← line_resetBlocks, State.line, h.lines, State.line]

theorem inspection (h : BlocksReset s t) (l : Line) : t.inspection l = none := by
  simp [State.inspection, h.inspections]

theorem lane (h : BlocksReset s t) (l : Lane) : t.lane l = (s.lane l).afterYardReset := by
  rw [← lane_resetLanes, State.lane, h.lanes, State.lane]

end BlocksReset

theorem exec_yardReset_blocks {r : Request} {s : State} (h : Asked s .yardReset r) (hp : r.payload = [0] ∨ r.payload = [1]) :
    ∃ t, exec (.yardReset r) s = .next t ∧ BlocksReset s t := by
  rcases hp with hp | hp
  · exact ⟨_, exec_yardReset_unprotected h hp, (BlocksReset.of_unprotected _).answered⟩
  · exact ⟨_, exec_yardReset_protected h hp, (BlocksReset.of_protected _).answered⟩

/-! ## The ports, and the notices of a protected reset's moves (R181, R186) -/

theorem port_resetBlocks (s : State) (p : Port) : (resetBlocks s).port p = (s.port p).afterYardReset := by
  simp [resetBlocks, State.port]

theorem port_unprotectedReset (s : State) (p : Port) : (unprotectedReset s).port p = (s.port p).afterYardReset :=
  port_resetBlocks s p

/-- The notices of the Office port. -/
def State.officeFlags (s : State) : List Notice := (s.port officePort).flags

/-- A state whose ports differ in the flags of the Office port alone. -/
def OfficeRaised (s t : State) : Prop := ∀ p, t.port p = { s.port p with flags := if p = officePort then t.officeFlags else (s.port p).flags }

namespace OfficeRaised

variable {s t u : State}

theorem refl (s : State) : OfficeRaised s s := fun p => by
  split
  · next e => rw [e]; rfl
  · rfl

theorem trans (h : OfficeRaised s t) (k : OfficeRaised t u) : OfficeRaised s u := fun p => by
  rw [k p, h p]
  split <;> rfl

theorem of_ports (h : t.ports = s.ports) : OfficeRaised s t := fun p => by
  have port : ∀ q, t.port q = s.port q := fun q => by rw [State.port, h, State.port]
  rw [State.officeFlags, port, port]
  exact refl s p

theorem raise (h : OfficeRaised s t) (kind subject : Nat) : OfficeRaised s (raiseNotice officePort kind subject t) := by
  refine h.trans fun p => ?_
  simp only [State.officeFlags, raiseNotice_eq, State.port_setPort, if_true]
  split
  · next e => rw [e]
  · rfl

theorem foldl {α : Type} {f : State → α → State} (hf : ∀ u a, OfficeRaised u (f u a)) (l : List α) (s : State) :
    OfficeRaised s (l.foldl f s) := by
  induction l generalizing s with
  | nil => exact refl s
  | cons a l ih => exact (hf s a).trans (ih (f s a))

theorem interruptRecord (s : State) (i : Comp) : OfficeRaised s (interruptRecord s i) := by
  unfold Machine.interruptRecord
  split
  · exact (of_ports rfl : OfficeRaised s _).raise 1 _
  all_goals exact of_ports rfl

theorem interruptFill (s : State) (l : Lane) : OfficeRaised s (interruptFill s l) := by
  rcases interruptFill_cases s l with ⟨e, -⟩ | ⟨x, -, -, e⟩ <;> rw [e]
  · exact refl s
  · unfold reportFill
    split
    · split
      · exact (of_ports rfl : OfficeRaised s _).raise 4 _
      · exact of_ports rfl
    · exact refl s

theorem protectedReset (s : State) : OfficeRaised (resetBlocks s) (protectedReset s) := by
  unfold Machine.protectedReset
  generalize List.finRange 96 = l
  exact ((foldl interruptRecord l _).trans (foldl interruptFill _ _)).trans (of_ports rfl)

end OfficeRaised

theorem port_protectedReset (s : State) (p : Port) :
    (protectedReset s).port p
      = { (s.port p).afterYardReset with flags := if p = officePort then (protectedReset s).officeFlags else [] } := by
  rw [OfficeRaised.protectedReset s p, port_resetBlocks]
  split <;> rfl

theorem mem_officeFlags_raise {s : State} {kind subject : Nat} {n : Notice} :
    n ∈ (raiseNotice officePort kind subject s).officeFlags ↔ n = ⟨kind, subject⟩ ∨ n ∈ s.officeFlags := by
  simp only [State.officeFlags, raiseNotice_eq, State.port_setPort_self, mem_insertNotice]

theorem mem_officeFlags_interruptRecord (s : State) (i : Comp) (n : Notice) :
    n ∈ (interruptRecord s i).officeFlags ↔ n ∈ s.officeFlags ∨ (s.comp i).state = .washing ∧ n = ⟨1, i.val + 1⟩ := by
  by_cases hw : (s.comp i).state = .washing
  · have e : interruptRecord s i = raiseNotice officePort 1 (i.val + 1) (s.modComp i fun r =>
        { r with state := .held, hold := some .interrupted, binding := none, cert := none }) := by
      simp only [interruptRecord, hw]
      rfl
    rw [e, mem_officeFlags_raise, or_comm]
    simp only [hw, true_and]
    rfl
  · have e : (interruptRecord s i).officeFlags = s.officeFlags := by
      unfold interruptRecord
      split <;> [exact absurd ‹_› hw; rfl; rfl; rfl; rfl; rfl; rfl; rfl; rfl; rfl; rfl]
    simp [e, hw]

theorem mem_officeFlags_interruptRecords {l : List Comp} (hl : l.Nodup) (s : State) (n : Notice) :
    n ∈ (l.foldl interruptRecord s).officeFlags
      ↔ n ∈ s.officeFlags ∨ ∃ i ∈ l, (s.comp i).state = .washing ∧ n = ⟨1, i.val + 1⟩ := by
  induction l generalizing s with
  | nil => simp
  | cons i l ih =>
    obtain ⟨hi, hl⟩ := List.nodup_cons.1 hl
    have rest : ∀ j ∈ l, (interruptRecord s i).comp j = s.comp j := fun j hj => by
      rw [comp_interruptRecord, if_neg fun e : j = i => hi (e ▸ hj)]
    have later : (∃ j ∈ l, ((interruptRecord s i).comp j).state = .washing ∧ n = ⟨1, j.val + 1⟩)
        ↔ ∃ j ∈ l, (s.comp j).state = .washing ∧ n = ⟨1, j.val + 1⟩ :=
      exists_congr fun j => and_congr_right fun hj => by rw [rest j hj]
    rw [List.foldl_cons, ih hl, mem_officeFlags_interruptRecord, later, or_assoc]
    simp only [List.exists_mem_cons_iff]

/-- A lane has a fill under way whose report raises COMPARTMENT_FILLED. -/
def raisesFilled (s : State) (l : Lane) (n : Notice) : Prop :=
  ∃ x : FillContext, (s.lane l).state ≠ .idle ∧ (s.lane l).context = some x ∧ (s.comp x.comp).state = .filling
    ∧ 0 < (s.lane l).counter ∧ n = ⟨4, x.comp.val + 1⟩

theorem mem_officeFlags_interruptFill (s : State) (l : Lane) (n : Notice) :
    n ∈ (interruptFill s l).officeFlags ↔ n ∈ s.officeFlags ∨ raisesFilled s l n := by
  rcases interruptFill_cases s l with ⟨e, h⟩ | ⟨x, hs, hx, e⟩
  · have none : ¬raisesFilled s l n := by
      rintro ⟨x, hs, hx, -⟩
      rcases h with h | h
      · exact hs h
      · rw [h] at hx; exact nomatch hx
    rw [e, or_iff_left none]
  · have raises : raisesFilled s l n
        ↔ (s.comp x.comp).state = .filling ∧ 0 < (s.lane l).counter ∧ n = ⟨4, x.comp.val + 1⟩ := by
      constructor
      · rintro ⟨y, -, hy, h⟩
        obtain rfl := Option.some.inj (hx.symm.trans hy)
        exact h
      · exact fun h => ⟨x, hs, hx, h⟩
    rw [e, raises]
    unfold reportFill
    by_cases hf : (s.comp x.comp).state = .filling
    · rw [if_pos hf]
      by_cases hn : 0 < (s.lane l).counter
      · rw [if_pos hn, raiseFilled, mem_officeFlags_raise, or_comm]
        simp only [hf, hn, true_and]
        rfl
      · rw [if_neg hn]
        simp [hn, State.officeFlags]
    · rw [if_neg hf]
      simp [hf]

/-! ## The records that a protected reset moves (R25) -/

theorem comp_interruptFill_other {s : State} (l : Lane) {i : Comp} (h : (s.comp i).state ≠ .filling) :
    (interruptFill s l).comp i = s.comp i := by
  rcases interruptFill_cases s l with ⟨e, -⟩ | ⟨x, -, -, e⟩ <;> rw [e]
  obtain ⟨touched, -, -, same⟩ := Lawful.reportFill_touches l x (s.lane l).counter .interrupted s
  by_cases hi : i = x.comp
  · rw [same (hi ▸ h)]
  · exact touched.others i hi

theorem comp_interruptFill_ne {s : State} {l : Lane} {i : Comp} (h : ∀ x, (s.lane l).context = some x → x.comp ≠ i) :
    (interruptFill s l).comp i = s.comp i := by
  rcases interruptFill_cases s l with ⟨e, -⟩ | ⟨x, -, hx, e⟩ <;> rw [e]
  exact (Lawful.reportFill_touches l x (s.lane l).counter .interrupted s).1.others i (h x hx).symm

/-- The record of a fill that a protected reset cuts short (R14, R25). -/
def cutShort (l : Lane) (x : FillContext) (n : Nat) (r : CompartmentRecord) : CompartmentRecord :=
  if 0 < n then { r with state := .filled, fill := some ⟨l, x.product, x.volume, n, .interrupted⟩ } else { r with state := .cleared }

theorem comp_interruptFill_self {s : State} {l : Lane} {x : FillContext} (hs : (s.lane l).state ≠ .idle)
    (hx : (s.lane l).context = some x) (hf : (s.comp x.comp).state = .filling) :
    (interruptFill s l).comp x.comp = cutShort l x (s.lane l).counter (s.comp x.comp) := by
  rcases interruptFill_cases s l with ⟨-, h | h⟩ | ⟨y, -, hy, e⟩
  · exact absurd h hs
  · rw [h] at hx; exact nomatch hx
  · obtain rfl := Option.some.inj (hx.symm.trans hy)
    rw [e, reportFill, if_pos hf, cutShort]
    split <;> simp [raiseFilled]

theorem cutShort_not_filling (l : Lane) (x : FillContext) (n : Nat) (r : CompartmentRecord) : (cutShort l x n r).state ≠ .filling := by
  unfold cutShort; split <;> exact nofun

/-- The lanes of a lawful state serve different records. -/
theorem LanesServe.other {s : State} (h : LanesServe s) {l m : Lane} {x y : FillContext} (hx : (s.lane l).context = some x)
    (hy : (s.lane m).context = some y) (hlm : l ≠ m) : x.comp ≠ y.comp := fun e => hlm (h.2.2.2.2 l m x y hx hy e)

theorem comp_interruptedFills_self {s : State} (h : LanesServe s) {l : Lane} {x : FillContext} (hx : (s.lane l).context = some x) :
    s.interruptedFills.comp x.comp = cutShort l x (s.lane l).counter (s.comp x.comp) := by
  have busy : (s.lane l).state ≠ .idle := fun e => by rw [(h.1 l).1 e] at hx; exact nomatch hx
  have filling := h.2.2.1 l x hx
  unfold State.interruptedFills
  match l with
  | 0 =>
    have first := comp_interruptFill_self busy hx filling
    rw [comp_interruptFill_other, first]
    rw [first]
    exact cutShort_not_filling _ _ _ _
  | 1 =>
    have kept : (interruptFill s 0).comp x.comp = s.comp x.comp :=
      comp_interruptFill_ne fun y hy => h.other hy hx (by decide)
    rw [comp_interruptFill_self (by rw [lane_interruptFill]; exact busy) (by rw [lane_interruptFill]; exact hx)
      (by rw [kept]; exact filling), kept, lane_interruptFill]

theorem mem_officeFlags_interruptedFills {s : State} (h : LanesServe s) (n : Notice) :
    n ∈ s.interruptedFills.officeFlags ↔ n ∈ s.officeFlags ∨ ∃ l, raisesFilled s l n := by
  have second : raisesFilled (interruptFill s 0) 1 n ↔ raisesFilled s 1 n := by
    refine exists_congr fun x => ?_
    rw [lane_interruptFill]
    refine and_congr_right fun _ => and_congr_right fun hx => ?_
    rw [comp_interruptFill_ne fun y hy => h.other hy hx (by decide)]
  rw [State.interruptedFills, mem_officeFlags_interruptFill, mem_officeFlags_interruptFill, second, or_assoc]
  refine or_congr_right ⟨?_, ?_⟩
  · rintro (h | h) <;> exact ⟨_, h⟩
  · rintro ⟨l, h⟩
    match l with
    | 0 => exact .inl h
    | 1 => exact .inr h

/-- The state of a protected reset before the lanes report. -/
def State.interruptedRecords (s : State) : State := (List.finRange 96).foldl interruptRecord (resetBlocks s)

theorem comp_interruptedRecords (s : State) (i : Comp) : s.interruptedRecords.comp i = interrupted (s.comp i) :=
  comp_interruptRecords _ i

theorem lane_interruptedRecords (s : State) (l : Lane) : s.interruptedRecords.lane l = s.lane l := by
  rw [State.lane, State.interruptedRecords, interruptRecords_fields]
  rfl

theorem interruptedRecords_filling (s : State) (i : Comp) :
    (s.interruptedRecords.comp i).state = .filling ↔ (s.comp i).state = .filling := by
  rw [comp_interruptedRecords]
  refine ⟨interrupted_filling, fun h => ?_⟩
  rw [interrupted_other] <;> simp [h]

theorem interruptedRecords_serve {s : State} (h : LanesServe s) : LanesServe s.interruptedRecords := by
  refine h.congr ?_ (interruptedRecords_filling s)
  rw [State.interruptedRecords, interruptRecords_fields]
  rfl

theorem officeFlags_protectedReset (s : State) : (protectedReset s).officeFlags = s.interruptedRecords.interruptedFills.officeFlags := by
  rw [protectedReset_eq, ← State.interruptedRecords]
  generalize s.interruptedRecords.interruptedFills = u
  rfl

/-- The notices that stand on the Office port after a protected reset are those of its moves (R25, R186). -/
theorem mem_officeFlags_protectedReset {s : State} (h : LanesServe s) (n : Notice) :
    n ∈ (protectedReset s).officeFlags
      ↔ (∃ i : Comp, (s.comp i).state = .washing ∧ n = ⟨1, i.val + 1⟩) ∨ ∃ l, raisesFilled s l n := by
  have cleared : (resetBlocks s).officeFlags = [] := by
    rw [State.officeFlags, port_resetBlocks]
    rfl
  have fills : ∀ l, raisesFilled s.interruptedRecords l n ↔ raisesFilled s l n := fun l => by
    unfold raisesFilled
    simp only [lane_interruptedRecords, interruptedRecords_filling]
  have records : n ∈ s.interruptedRecords.officeFlags ↔ ∃ i : Comp, (s.comp i).state = .washing ∧ n = ⟨1, i.val + 1⟩ := by
    rw [State.interruptedRecords, mem_officeFlags_interruptRecords (List.nodup_finRange 96), cleared]
    have comp : ∀ i, (resetBlocks s).comp i = s.comp i := fun _ => rfl
    simp only [List.not_mem_nil, false_or, List.mem_finRange, true_and, comp]
  rw [officeFlags_protectedReset, mem_officeFlags_interruptedFills (interruptedRecords_serve h), records]
  exact or_congr_right (exists_congr fills)

end Sys2Proof.Machine
end

section
/-! The statement of YARD_RESET, put together from what the resets do to each block. -/

namespace Sys2Proof.Machine

open Sys2Proof (Byte Comp Tanker Bay Chan RecipeSlot CargoClass Line Lane Port)

/-- The sixteen facts of a line after a yard reset, from its state before (R143). -/
theorem ProbeLine.afterYardReset_fields (x : ProbeLine) (off : Nat) :
    (x.state = .detached ∨ x.state = .docked →
        (x.afterYardReset off).state = x.state
          ∧ (x.afterYardReset off).timers = ⟨none, none, none, none, none, none, none, none⟩)
      ∧ (x.state = .closing → (x.afterYardReset off).state = .closing
          ∧ (x.afterYardReset off).timers = ⟨none, none, none, none, none, none, none, x.timers.off⟩)
      ∧ (x.state.inSession = true → (x.afterYardReset off).state = .closing
          ∧ (x.afterYardReset off).timers
              = ⟨none, none, none, none, none, none, none, some ⟨off, bitPeriod x.speed⟩⟩) := by
  refine ⟨?_, fun h => ?_, fun h => ?_⟩
  · rintro (h | h) <;> simp [ProbeLine.afterYardReset, h, LineState.inSession, LineTimers.stopped]
  · simp [ProbeLine.afterYardReset, h, LineState.inSession, LineTimers.stopped]
  · simp [ProbeLine.afterYardReset, h, LineTimers.stopped, ProbeLine.timer]

theorem FillLane.afterYardReset_eq (x : FillLane) :
    x.afterYardReset
      = if x.state = .idle then x
        else
          { x with
            state := .idle, context := none, cause := none, capture := x.counter
            lastOutcome := some .interrupted, noFlow := 0, noFlowDue := false, settle := 0, settleTime := 0 } := by
  unfold FillLane.afterYardReset
  split <;> simp [*]

/-- The ports of either reset, once its request is answered: the Office port is the request's own. -/
theorem yardReset_ports {r : Request} {s t : State} (hr : r.port = officePort) {flags : List Notice}
    (ht : ∀ p, t.port p = { ((s.taking .yardReset r).port p).afterYardReset with flags := if p = officePort then flags else [] }) :
    (∀ p : Port, p ≠ officePort →
        (t.answering .yardReset r ⟨.ok, []⟩).port p
          = { s.port p with
              receiver := .seeking, buffer := [], gapRunning := false
              held := (s.port p).held.filter fun h => h.taken, gapCount := 0, checkCount := 0, lengthCount := 0
              overrunCount := 0, countingTime := 0, flags := [] })
      ∧ (t.answering .yardReset r ⟨.ok, []⟩).port officePort
          = { (s.port officePort).answered 0x36 0xB6 r .ok [] with
              gapCount := 0, checkCount := 0, lengthCount := 0, overrunCount := 0, countingTime := 0, flags := flags } := by
  constructor
  · intro p hp
    rw [State.answering, hr, State.port_setPort_ne _ _ hp, ht, if_neg hp, State.taking, hr, State.port_setPort_ne _ _ hp]
    rfl
  · rw [State.answering, hr, State.port_setPort_self, ht, if_pos rfl, State.taking, hr, State.port_setPort_self]
    rfl

/-- The records that are not FILLING after a protected reset (R25). -/
theorem comp_protectedReset_moved {s : State} {i : Comp} (h : (s.comp i).state ≠ .filling) :
    (protectedReset s).comp i = interrupted (s.comp i) := by
  have unfilled : (s.interruptedRecords.comp i).state ≠ .filling := fun e => h ((interruptedRecords_filling s i).1 e)
  have kept : (interruptFill s.interruptedRecords 0).comp i = s.interruptedRecords.comp i := comp_interruptFill_other 0 unfilled
  rw [comp_protectedReset, ← State.interruptedRecords, State.interruptedFills, comp_interruptFill_other 1 (by rw [kept]; exact unfilled),
    kept, comp_interruptedRecords]

/-- The FILLING records after a protected reset (R14, R25). -/
theorem comp_protectedReset_filling {s : State} (h : LanesServe s) {l : Lane} {x : FillContext}
    (hx : (s.lane l).context = some x) :
    (protectedReset s).comp x.comp = cutShort l x (s.lane l).counter (s.comp x.comp) := by
  have unmoved : s.interruptedRecords.comp x.comp = s.comp x.comp := by
    rw [comp_interruptedRecords, interrupted_other] <;> simp [h.2.2.1 l x hx]
  rw [comp_protectedReset, ← State.interruptedRecords,
    comp_interruptedFills_self (interruptedRecords_serve h) (by rw [lane_interruptedRecords]; exact hx), unmoved,
    lane_interruptedRecords]

theorem bay_protectedReset (s : State) (b : Bay) : (protectedReset s).bay b = { s.bay b with owed := 0 } := by
  rw [← bay_resetBlocks, State.bay, protectedReset_fields]
  rfl

/-- What a protected reset keeps of the tables (R25). -/
theorem protectedReset_tables (s : State) :
    (protectedReset s).tankers = s.tankers ∧ (protectedReset s).departures = s.departures
      ∧ (protectedReset s).certCounter = s.certCounter ∧ (protectedReset s).yardOpen = s.yardOpen := by
  rw [protectedReset_fields]
  generalize (protectedReset s).comps = comps, (protectedReset s).ports = ports
  exact ⟨rfl, rfl, rfl, rfl⟩

theorem LanesServe.taking {s : State} (h : LanesServe s) (k : RequestKind) (r : Request) : LanesServe (s.taking k r) := h

theorem unprotectedReset_fields (s : State) :
    unprotectedReset s
      = { s with
          comps := Vector.replicate 96 CompartmentRecord.freed, tankers := Vector.replicate 16 none
          departures := [], certCounter := 1, yardOpen := false, bays := (unprotectedReset s).bays
          channels := (unprotectedReset s).channels, plant := (unprotectedReset s).plant, lines := (unprotectedReset s).lines
          inspections := (unprotectedReset s).inspections, lanes := (unprotectedReset s).lanes
          ports := (unprotectedReset s).ports } := rfl

/-- What an unprotected reset leaves of the state, its request answered (R26). -/
theorem answered_unprotectedReset (s : State) (r : Request) (t : State)
    (ht : t = (unprotectedReset (s.taking .yardReset r)).answering .yardReset r ⟨.ok, []⟩) :
    t = { s with
          comps := Vector.replicate 96 CompartmentRecord.freed, tankers := Vector.replicate 16 none
          departures := [], certCounter := 1, yardOpen := false, bays := t.bays, channels := t.channels
          plant := t.plant, lines := t.lines, inspections := t.inspections, lanes := t.lanes
          ports := t.ports } := by
  have e := unprotectedReset_fields (s.taking .yardReset r)
  generalize unprotectedReset (s.taking .yardReset r) = u at ht e
  rw [ht, e]
  rfl

/-- Settles O8: the blocks from `BlocksReset`, the ports and notices from the resets' own, and the records from `interrupted` and
`cutShort`. -/
theorem yardReset : Obligations.YardReset := by
  refine ⟨fun r s hasked hp => ?_, fun r s hasked hp => ?_, fun r s hasked hp hlanes => ?_, fun r s hasked => ⟨fun hp => ?_, ?_⟩⟩
  · obtain ⟨t, ht, blocks⟩ := exec_yardReset_blocks hasked hp
    refine ⟨t, ht, fun c => ?_, blocks.plant, fun l => ?_, fun l => ?_, blocks.clock, blocks.permit, blocks.portRate, blocks.bays⟩
    · rw [blocks.chan]; rfl
    · rw [blocks.line]
      exact ⟨blocks.inspection l, rfl, rfl, rfl, rfl, rfl, rfl, rfl, rfl, rfl, rfl, rfl, rfl, rfl, rfl, rfl, rfl, rfl, rfl,
        ProbeLine.afterYardReset_fields _ _⟩
    · rw [blocks.lane, FillLane.afterYardReset_eq]
  · have office := office_of_yardReset hasked
    rcases hp with hp | hp
    · obtain ⟨others, own⟩ := yardReset_ports (t := unprotectedReset (s.taking .yardReset r)) (flags := []) office fun p => by
        rw [port_unprotectedReset]; split <;> rfl
      refine ⟨_, exec_yardReset_unprotected hasked hp, others, ?_, fun _ n => ?_⟩
      · rw [own]
      · rw [own, hp]
        exact ⟨nofun, fun h => nomatch h.1⟩
    · obtain ⟨others, own⟩ := yardReset_ports office (port_protectedReset (s.taking .yardReset r))
      refine ⟨_, exec_yardReset_protected hasked hp, others, ?_, fun hlanes n => ?_⟩
      · rw [own]
      · rw [own, hp, mem_officeFlags_protectedReset (hlanes.taking _ _)]
        exact (and_iff_right rfl).symm
  · have done := exec_yardReset_protected hasked hp
    have tables := protectedReset_tables (s.taking .yardReset r)
    have bay := bay_protectedReset (s.taking .yardReset r)
    have moved := fun i => comp_protectedReset_moved (s := s.taking .yardReset r) (i := i)
    have cut := fun l x => comp_protectedReset_filling (l := l) (x := x) (hlanes.taking .yardReset r)
    generalize protectedReset (s.taking .yardReset r) = u at done tables bay moved cut
    obtain ⟨tankers, departures, counter, yardOpen⟩ := tables
    refine ⟨_, done, tankers, departures, counter, yardOpen, bay, fun i => ⟨fun h => ?_, fun h => ?_, fun h k g => ?_⟩,
      fun l y hy => ⟨fun h => ?_, fun h => ?_⟩⟩
    · exact (moved i (show (s.comp i).state ≠ .filling by rw [h]; nofun)).trans (by simp [interrupted, h, State.taking])
    · exact (moved i (show (s.comp i).state ≠ .filling by rw [h]; nofun)).trans (by simp [interrupted, h, State.taking])
    · exact (moved i g).trans (interrupted_other h k)
    · exact (cut l y hy).trans (if_neg (show ¬0 < (s.lane l).counter by omega))
    · exact (cut l y hy).trans (if_pos h)
  · have done := exec_yardReset_unprotected hasked hp
    have bay := BlocksReset.bay_unprotectedReset (s.taking .yardReset r)
    have fields := answered_unprotectedReset s r _ rfl
    generalize unprotectedReset (s.taking .yardReset r) = u at done bay fields
    exact ⟨_, done, fields, bay⟩
  · intro n hn hp
    have value : flag? n = none := by
      have one : n ≠ 1 := fun e => by rw [e] at hn; exact absurd hn (by decide)
      have zero : n ≠ 0 := fun e => by rw [e] at hn; exact absurd hn (by decide)
      rw [flag?, if_neg one, if_neg zero]
    refine takeRequest_refused hasked.1 hasked.2 ?_
    simp only [ownYardReset, hp, value]

end Sys2Proof.Machine
end

section
/-! What owners have in common: they accept, or refuse and change nothing; a payload of another length is refused; and the names that they
check (R3, R76, R178, R179). -/

namespace Sys2Proof.Machine

open Sys2Proof (Byte Comp Tanker Bay Chan RecipeSlot CargoClass Line Lane Port)

/-! ## A refusal changes nothing (R179) -/

/-- What an owner makes of a request in a state: an OK answer, or a refusal that leaves the state as it was. -/
def Decides (s : State) (x : Taken) : Prop := x.2.result = .ok ∨ ∃ c, x = refuse c s

namespace Decides

variable {s : State}

theorem refused (c : ResultCode) : Decides s (refuse c s) := .inr ⟨c, rfl⟩

theorem accepted (data : List Byte) (t : State) : Decides s (accept data t) := .inl rfl

theorem ite {P : Prop} [Decidable P] {x y : Taken} (hx : Decides s x) (hy : Decides s y) : Decides s (if P then x else y) := by
  split <;> assumption

theorem named {n : Byte} {k : Comp → CompartmentRecord → Taken} (h : ∀ i x, Decides s (k i x)) : Decides s (nameComp n s k) := by
  unfold nameComp
  split <;> [exact refused _; (split <;> [exact refused _; exact h _ _])]

theorem namedTanker {n : Byte} {k : Tanker → TankerData → Taken} (h : ∀ i x, Decides s (k i x)) : Decides s (nameTanker n s k) := by
  unfold nameTanker
  split <;> [exact refused _; (split <;> [exact refused _; exact h _ _])]

theorem namedChannel {p : Port} {n : Byte} {k : Chan → Taken} (h : ∀ c, Decides s (k c)) : Decides s (nameChannel p n s k) := by
  unfold nameChannel
  split
  · exact refused _
  · exact ite (refused _) (ite (refused _) (h _))

theorem namedLine {n : Byte} {k : Line → Taken} (h : ∀ l, Decides s (k l)) : Decides s (nameLine n s k) := by
  unfold nameLine
  split <;> [exact refused _; exact h _]

theorem namedLane {n : Byte} {k : Lane → Taken} (h : ∀ l, Decides s (k l)) : Decides s (nameLane n s k) := by
  unfold nameLane
  split <;> [exact refused _; exact h _]

theorem opened {x : Taken} (h : Decides s x) : Decides s (whenOpen s x) := ite h (refused _)

theorem bookTanker (fleet : Nat) (ds : List Description) (s : State) : Decides s (bookTanker fleet ds s) := by
  unfold Machine.bookTanker
  split <;> [exact refused _; exact ite (refused _) (accepted _ _)]

end Decides

theorem book_decides (r : Request) (s : State) : Decides s (ownBook ⟨r, []⟩ s) := by
  unfold ownBook
  refine .opened ?_
  split
  · exact .refused _
  · refine .ite (.refused _) ?_
    rw [readBarred_nil]
    exact .ite (.refused _) (.bookTanker ..)

/-- Every owner is made of name checks, matches on the payload and conditions, whose ends refuse in the state they began with or
accept. -/
theorem owner_decides (k : RequestKind) (r : Request) (s : State) : Decides s (k.owner r s) := by
  cases k
  case book => exact book_decides r s
  all_goals
    simp only [RequestKind.owner, ownSetNextClass, ownDispose, ownWithdraw, ownDepart, ownTakeDeparture, ownReadCompartment,
      ownReadTanker, ownWriteMatrixRow, ownReadMatrixRow, ownWriteLimits, ownReadLimits, ownOpenYard, ownClearStaging,
      ownWriteStagingStep, ownSetStagingRounds, ownLoadStaging, ownReadStaging, ownCommitRecipe, ownEraseRecipe, ownReadRecipe,
      ownPark, ownUnpark, ownExpedite, ownRequestDispatch, ownCancelBinding, ownReadBay, ownStartRun, ownStartRehearsal,
      ownAbortRun, ownClearFault, ownServiceEnter, ownServiceLatch, ownServiceClaim, ownServiceRelease, ownServiceExit,
      ownChannelStatus, ownSetHotCapacity, ownSetTokenAllowance, ownSetPriorityScheme, ownReadArbiter, ownLineStatus, ownInspect,
      ownCancelInspect, ownReadClock, ownAuthorizeFill, ownStopFill, ownLaneStatus, ownFetchNotice, ownSetNoticeMask,
      ownPortStatus, ownSetYard, ownReadYard, ownYardReset, recordState]
    repeat' first
      | with_reducible exact .accepted _ _
      | with_reducible exact .refused _
      | with_reducible refine .opened ?_
      | with_reducible refine .named fun _ _ => ?_
      | with_reducible refine .namedTanker fun _ _ => ?_
      | with_reducible refine .namedChannel fun _ => ?_
      | with_reducible refine .namedLine fun _ => ?_
      | with_reducible refine .namedLane fun _ => ?_
      | with_reducible refine .ite ?_ ?_
      | split

/-! ## The request stays held while its owner works (R178) -/

/-- The requests that ports hold as taken stay held. -/
def HeldKept (s t : State) : Prop := ∀ (p : Port) (h : HeldRequest), (s.port p).held = some h → h.taken = true → (t.port p).held = some h

namespace HeldKept

variable {s t u : State}

theorem refl (s : State) : HeldKept s s := fun _ _ h _ => h

theorem trans (h : HeldKept s t) (k : HeldKept t u) : HeldKept s u := fun p x hx ht => k p x (h p x hx ht) ht

theorem of_kept (h : Kept s t) : HeldKept s t := fun p x hx _ => by rw [h.ports p]; exact hx

theorem of_ports (h : t.ports = s.ports) : HeldKept s t := fun p x hx _ => by rw [State.port, h]; exact hx

theorem modPort (s : State) (p : Port) {f : StationPort → StationPort} (hf : ∀ q, (f q).held = q.held) :
    HeldKept s (s.modPort p f) := fun q x hx _ => by
  rw [State.modPort_eq, State.port_setPort]
  split
  · next e => rw [hf, ← e]; exact hx
  · exact hx

theorem changeHotCapacity (n : Nat) (s : State) : HeldKept s (changeHotCapacity n s) :=
  (of_ports rfl : HeldKept s (s.setPlant { s.plant with hotCapacity := n })).trans
    (of_kept ((Kept.refl _).foldl _ Kept.dropClaim _).arbitrate)

theorem departTanker (s : State) (i : Tanker) (x : TankerData) : HeldKept s (departTanker i x s) := by
  have freed : Kept s (x.compartments.foldl (fun u k => u.setComp k CompartmentRecord.freed) s) :=
    (Kept.refl s).foldl _ (fun u k => (Kept.refl u).setComp k _) _
  unfold Machine.departTanker
  dsimp only
  refine trans ?_ (of_kept (((Kept.refl _).setTanker i none).raiseNotice ..))
  exact (of_kept freed).trans (of_ports rfl)

theorem afterYardReset {q : StationPort} {x : HeldRequest} (hx : q.held = some x) (ht : x.taken = true) :
    q.afterYardReset.held = some x := by
  simp [StationPort.afterYardReset, hx, ht]

theorem protectedReset (s : State) : HeldKept s (protectedReset s) := fun p x hx ht => by
  rw [port_protectedReset]
  exact afterYardReset hx ht

theorem unprotectedReset (s : State) : HeldKept s (unprotectedReset s) := fun p x hx ht => by
  rw [port_unprotectedReset]
  exact afterYardReset hx ht

end HeldKept

theorem owner_heldKept (k : RequestKind) (r : Request) (s : State) : HeldKept s (k.owner r s).1 := by
  have start := HeldKept.refl s
  cases hw : k.works with
  | true => exact .of_kept (owner_kept hw r s)
  | false =>
    cases hr : k.reads with
    | true => rw [owner_reads hr]; exact start
    | false =>
      cases k with
      | book =>
        rcases ownBook_effect ⟨r, []⟩ s with e | ⟨ds, -, e | ⟨fleet, e⟩⟩ <;> rw [RequestKind.owner, e]
        · exact start
        · rw [readBarred_nil]; exact start
        · rw [readBarred_nil]
          rcases bookTanker_effect fleet ds s with e | ⟨slot, d, -, e⟩ <;> rw [e]
          · exact start
          · exact .of_kept (((Kept.refl s).bookRecords ..).setTanker _ _)
      | park =>
        rcases ownPark_effect ⟨r, []⟩ s with e | ⟨b, i, x, -, e⟩ <;> rw [RequestKind.owner, e]
        · exact start
        · exact .of_kept ((Kept.refl s).parkTanker_nil b i x)
      | depart =>
        rcases ownDepart_effect r s with e | ⟨i, x, -, -, -, e⟩ <;> rw [RequestKind.owner, e]
        · exact start
        · exact .departTanker s i x
      | takeDeparture =>
        rcases ownTakeDeparture_effect r s with e | ⟨d, ds, -, e | e⟩ <;> rw [RequestKind.owner, e]
        · exact start
        · exact .of_ports rfl
        · exact HeldKept.trans (t := { s with departures := ds }) (.of_ports rfl) (.of_kept ((Kept.refl _).raiseNotice ..))
      | writeMatrixRow =>
        rcases ownWriteMatrixRow_effect r s with e | ⟨_, _, -, -, e⟩ <;>
          rw [RequestKind.owner, e] <;> exact .of_ports rfl
      | writeLimits =>
        rcases ownWriteLimits_effect r s with e | ⟨_, e⟩ <;>
          rw [RequestKind.owner, e] <;> exact .of_ports rfl
      | openYard =>
        rcases ownOpenYard_effect r s with e | e <;>
          rw [RequestKind.owner, e] <;> exact .of_ports rfl
      | clearStaging =>
        rcases ownClearStaging_effect r s with e | e <;>
          rw [RequestKind.owner, e] <;> exact .of_ports rfl
      | writeStagingStep =>
        rcases ownWriteStagingStep_effect r s with e | ⟨_, _, -, e⟩ <;>
          rw [RequestKind.owner, e] <;> exact .of_ports rfl
      | setStagingRounds =>
        rcases ownSetStagingRounds_effect r s with e | ⟨_, -, e⟩ <;>
          rw [RequestKind.owner, e] <;> exact .of_ports rfl
      | loadStaging =>
        rcases ownLoadStaging_effect r s with e | ⟨_, _, -, e⟩ <;>
          rw [RequestKind.owner, e] <;> exact .of_ports rfl
      | commitRecipe =>
        rcases ownCommitRecipe_effect r s with e | ⟨_, _, -, -, e⟩ <;>
          rw [RequestKind.owner, e] <;> exact .of_ports rfl
      | eraseRecipe =>
        rcases ownEraseRecipe_effect r s with e | ⟨_, -, e⟩ <;>
          rw [RequestKind.owner, e] <;> exact .of_ports rfl
      | setYard =>
        rcases ownSetYard_effect r s with e | ⟨_, _, -, e⟩ <;>
          rw [RequestKind.owner, e] <;> exact .of_ports rfl
      | setHotCapacity =>
        rcases ownSetHotCapacity_effect r s with e | ⟨n, -, -, e⟩ <;> rw [RequestKind.owner, e]
        · exact start
        · exact .changeHotCapacity n s
      | setTokenAllowance =>
        rcases ownSetTokenAllowance_effect r s with e | ⟨_, _, e⟩ <;>
          rw [RequestKind.owner, e] <;> exact .of_ports rfl
      | setPriorityScheme =>
        rcases ownSetPriorityScheme_effect r s with e | ⟨_, e⟩ <;>
          rw [RequestKind.owner, e] <;> exact .of_ports rfl
      | fetchNotice =>
        rcases ownFetchNotice_effect r s with e | ⟨n, e⟩ <;> rw [RequestKind.owner, e]
        · exact start
        · exact .modPort s _ fun _ => rfl
      | setNoticeMask =>
        rcases ownSetNoticeMask_effect r s with e | ⟨i, m, e⟩ <;> rw [RequestKind.owner, e]
        · exact start
        · exact .modPort s _ fun _ => rfl
      | portStatus =>
        rcases ownPortStatus_effect r s with e | e <;> rw [RequestKind.owner, e]
        · exact start
        · exact .modPort s _ fun _ => rfl
      | yardReset =>
        rcases ownYardReset_effect r s with e | e | e <;> rw [RequestKind.owner, e]
        · exact start
        · exact .protectedReset s
        · exact .unprotectedReset s
      | _ => simp [RequestKind.reads, RequestKind.works] at hr hw

/-- Settles O10: an owner's refusal is `refuse`, and an owner that accepts leaves the request held. -/
theorem refusalChangesNothing : Obligations.RefusalChangesNothing := by
  intro k r s h
  have refused : ∀ x : ResultCode, (s.taking k r).answering k r ⟨x, []⟩ = s.answered k r x [] := fun x => answering_taking s k r x []
  have answer : ∀ (x : ResultCode),
      ((s.answered k r x []).port r.port).answer = some ⟨byte (k.code + 0x80), r.tag, [byte x.code]⟩
        ∧ ((s.answered k r x []).port r.port).held = some ⟨byte k.code, r.tag, r.payload, true⟩ := fun x => by
    rw [State.answered, State.port_setPort_self]
    exact ⟨rfl, rfl⟩
  by_cases hp : k.permitted r.port = true
  · have done := (request_exec k r s).trans (takeRequest_permitted h hp _)
    rcases owner_decides k r (s.taking k r) with ok | ⟨x, e⟩
    · have held : (((k.owner r (s.taking k r)).1).port r.port).held = some ⟨byte k.code, r.tag, r.payload, true⟩ :=
        owner_heldKept k r (s.taking k r) r.port _ (by rw [State.taking, State.port_setPort_self]) rfl
      refine ⟨.ok, (k.owner r (s.taking k r)).2.data, _, done, ?_, ?_, fun no => absurd rfl no⟩
      · rw [State.answering, State.port_setPort_self, ok]
      · rw [State.answering, State.port_setPort_self]; exact held
    · rw [e] at done
      exact ⟨x, [], _, done.trans (congrArg _ (refused x)), (answer x).1, (answer x).2, fun _ => ⟨rfl, rfl⟩⟩
  · have done := (request_exec k r s).trans (takeRequest_notPermitted h (Bool.eq_false_iff.2 hp) _)
    exact ⟨.notPermitted, [], _, done, (answer _).1, (answer _).2, fun _ => ⟨rfl, rfl⟩⟩

end Sys2Proof.Machine
end

section
/-! The checks that stand before an owner's own: the length of the payload and the name of a channel (R70, R76, R179, R188, R190). -/

namespace Sys2Proof.Machine

open Sys2Proof (Byte Comp Tanker Bay Chan RecipeSlot CargoClass Line Lane Port)

/-! ## The length of the payload (R179; log 19) -/

theorem ownWriteMatrixRow_length {r : Request} (h : r.payload.length ≠ 33) (s : State) :
    ownWriteMatrixRow r s = refuse .badArg s := by
  unfold ownWriteMatrixRow
  split
  · next n cells hp =>
    split
    · next row l _ hl =>
      have length : l.length = cells.length := by simpa using (congrArg List.length (map_some_of_readAll hl)).symm
      rw [if_pos]
      rw [hp, List.length_cons] at h
      omega
    · rfl
  · rfl

theorem ownWriteStagingStep_length {r : Request} (h : r.payload.length ≠ 11) (s : State) :
    ownWriteStagingStep r s = refuse .badArg s := by
  unfold ownWriteStagingStep
  split
  · next n fields hp =>
    have none : step? fields = none := by
      unfold step?
      split
      · exact absurd (by rw [hp]; rfl) h
      · rfl
    rw [none]
    split <;> [contradiction; rfl]
  · rfl

/-- A payload of another length than the layout's comes to the last branch of the owner's match. -/
theorem owner_length {k : RequestKind} {n : Nat} (hk : k.payloadLength = some n) {r : Request} (h : r.payload.length ≠ n) {s : State}
    (ho : k ∈ openOnly → s.yardOpen = true) : k.owner r s = refuse .badArg s := by
  cases k
  case book | requestDispatch => exact nomatch hk
  case writeMatrixRow => exact ownWriteMatrixRow_length (Option.some.inj hk ▸ h) s
  case writeStagingStep => exact ownWriteStagingStep_length (Option.some.inj hk ▸ h) s
  case park | startRun | startRehearsal | inspect | authorizeFill =>
    obtain rfl := Option.some.inj hk
    simp only [RequestKind.owner, ownPark, ownStartRun, ownStartRehearsal, ownInspect, ownAuthorizeFill]
    rw [whenOpen, if_pos (ho (by decide))]
    split
    · next hp => exact absurd (by rw [hp]; rfl) h
    · rfl
  all_goals
    obtain rfl := Option.some.inj hk
    simp only [RequestKind.owner, ownSetNextClass, ownDispose, ownWithdraw, ownDepart, ownTakeDeparture, ownReadCompartment,
      ownReadTanker, ownReadMatrixRow, ownWriteLimits, ownReadLimits, ownOpenYard, ownClearStaging, ownSetStagingRounds,
      ownLoadStaging, ownReadStaging, ownCommitRecipe, ownEraseRecipe, ownReadRecipe, ownUnpark, ownExpedite, ownCancelBinding,
      ownReadBay, ownAbortRun, ownClearFault, ownServiceEnter, ownServiceLatch, ownServiceClaim, ownServiceRelease,
      ownServiceExit, ownChannelStatus, ownSetHotCapacity, ownSetTokenAllowance, ownSetPriorityScheme, ownReadArbiter,
      ownLineStatus, ownCancelInspect, ownReadClock, ownStopFill, ownLaneStatus, ownFetchNotice, ownSetNoticeMask,
      ownPortStatus, ownSetYard, ownReadYard, ownYardReset]
    split
    · next hp => exact absurd (by rw [hp]; rfl) h
    · rfl

/-! ## The name of a channel (R70, R76) -/

theorem nameChannel_badArg {n : Byte} (h : NamesNone 8 n) (p : Port) (s : State) (k : Chan → Taken) :
    nameChannel p n s k = refuse .badArg s := by
  rw [nameChannel, index?_of_namesNone h]

theorem nameChannel_of_names {n : Byte} {c : Chan} (h : Names n c) (p : Port) (s : State) (k : Chan → Taken) :
    nameChannel p n s k
      = if foreignChannel p c then refuse .notPermitted s
        else if (s.chan c).state = .unfitted then refuse .unfit s
        else k c := by
  rw [nameChannel, index?_of_names h]

theorem portRole_bayPort (b : Bay) : portRole (bayPort b) = .bay b := by
  revert b; decide

theorem foreignChannel_bayPort (b : Bay) (c : Chan) : foreignChannel (bayPort b) c = decide (bayOf c ≠ b) := by
  rw [foreignChannel, portRole_bayPort]

theorem foreignChannel_officePort (c : Chan) : foreignChannel officePort c = false := rfl

/-- The requests that name one channel by their first byte hand it to the common checks (R76). -/
theorem owner_nameChannel {k : RequestKind} {r : Request} {n : Byte} {rest : List Byte} {s : State}
    (hk : k ∈ [RequestKind.cancelBinding, .startRun, .startRehearsal, .abortRun, .clearFault, .serviceEnter, .serviceLatch,
      .serviceClaim, .serviceRelease, .serviceExit])
    (hp : r.payload = n :: rest) (hl : k.payloadLength = some (rest.length + 1)) (ho : k ∈ openOnly → s.yardOpen = true) :
    ∃ f, k.owner r s = nameChannel r.port n s f := by
  have length : ∀ {m}, k.payloadLength = some (m + 1) → rest.length = m := fun hm => by
    have := Option.some.inj (hl.symm.trans hm)
    omega
  simp only [List.mem_cons, List.not_mem_nil, or_false] at hk
  rcases hk with rfl | rfl | rfl | rfl | rfl | rfl | rfl | rfl | rfl | rfl
  · obtain rfl := List.length_eq_zero_iff.1 (length rfl)
    simp only [RequestKind.owner, ownCancelBinding, hp]
    exact ⟨_, rfl⟩
  · obtain rfl := List.length_eq_zero_iff.1 (length rfl)
    simp only [RequestKind.owner, ownStartRun, hp, whenOpen, ho (by decide), if_true]
    exact ⟨_, rfl⟩
  · obtain ⟨a, rfl⟩ := List.length_eq_one_iff.1 (length rfl)
    simp only [RequestKind.owner, ownStartRehearsal, hp, whenOpen, ho (by decide), if_true]
    exact ⟨_, rfl⟩
  · obtain rfl := List.length_eq_zero_iff.1 (length rfl)
    simp only [RequestKind.owner, ownAbortRun, hp]
    exact ⟨_, rfl⟩
  · obtain rfl := List.length_eq_zero_iff.1 (length rfl)
    simp only [RequestKind.owner, ownClearFault, hp]
    exact ⟨_, rfl⟩
  · obtain rfl := List.length_eq_zero_iff.1 (length rfl)
    simp only [RequestKind.owner, ownServiceEnter, hp]
    exact ⟨_, rfl⟩
  · match rest, length rfl with
    | [a, b, d, e, f], _ =>
      simp only [RequestKind.owner, ownServiceLatch, hp]
      exact ⟨_, rfl⟩
  · obtain ⟨a, b, d, rfl⟩ := List.length_eq_three.1 (length rfl)
    simp only [RequestKind.owner, ownServiceClaim, hp]
    exact ⟨_, rfl⟩
  · obtain rfl := List.length_eq_zero_iff.1 (length rfl)
    simp only [RequestKind.owner, ownServiceRelease, hp]
    exact ⟨_, rfl⟩
  · obtain rfl := List.length_eq_zero_iff.1 (length rfl)
    simp only [RequestKind.owner, ownServiceExit, hp]
    exact ⟨_, rfl⟩

/-- Settles O13: the last branch of each owner's match, and the common checks of `nameChannel` in their order. -/
theorem commonChecks : Obligations.CommonChecks := by
  refine ⟨fun k n r s hk hn hasked ho => ?_, fun k r s n rest hk hasked hp hl ho => ?_⟩
  · exact (request_exec k r s).trans (takeRequest_refused hasked.1 hasked.2 (owner_length hk hn ho))
  · obtain ⟨f, hf⟩ := owner_nameChannel (s := s.taking k r) hk hp hl ho
    have refused : ∀ x, nameChannel r.port n (s.taking k r) f = refuse x (s.taking k r) →
        exec (request k r) s = .next (s.answered k r x []) := fun x hx =>
      (request_exec k r s).trans (takeRequest_refused hasked.1 hasked.2 (hf.trans hx))
    refine ⟨fun hn => refused _ (nameChannel_badArg hn ..), fun c hc => ⟨?_, fun hport hc' => refused _ ?_⟩⟩
    · rintro ⟨b, hb, hne⟩
      refine refused _ ?_
      rw [nameChannel_of_names hc, hb, foreignChannel_bayPort, if_pos (decide_eq_true hne)]
    · have own : foreignChannel r.port c = false := by
        rcases hport with e | e <;> rw [e]
        · rfl
        · rw [foreignChannel_bayPort, decide_eq_false (not_not.2 rfl)]
      rw [nameChannel_of_names hc, own, if_neg Bool.false_ne_true]
      exact if_pos hc'

end Sys2Proof.Machine
end

section
/-! The station ports: frames that complete, the receiver character by character, notices, masks and PORT_STATUS (R177 to R184). -/

namespace Sys2Proof.Machine

open Sys2Proof (Byte Comp Tanker Bay Chan RecipeSlot CargoClass Line Lane Port)

@[simp] theorem State.setPort_setPort (s : State) (p : Port) (x y : StationPort) : (s.setPort p x).setPort p y = s.setPort p y := by
  simp [State.setPort]

/-! ## Frames that complete (R178, R179) -/

theorem mayTake_of_held {s : State} {kind : Byte} {r : Request} {h : HeldRequest} (hh : (s.port r.port).held = some h) :
    mayTake kind r s = true ↔ h.taken = false ∧ h.kind = kind ∧ h.tag = r.tag ∧ h.payload = r.payload := by
  simp [mayTake, hh, HeldRequest.isWaiting]

/-- A port whose own request waits hands it to its owner. -/
theorem exec_request_waiting {k : RequestKind} {r : Request} {s : State} (hs : s.resetPin = false)
    (hh : (s.port r.port).held = some ⟨byte k.code, r.tag, r.payload, false⟩) (hp : k.permitted r.port = true) :
    let u := s.setPort r.port { s.port r.port with held := some ⟨byte k.code, r.tag, r.payload, true⟩ }
    exec (request k r) s = .next ((k.owner r u).1.answering k r (k.owner r u).2) := by
  have may : mayTake (byte k.code) r s = true := (mayTake_of_held hh).2 ⟨rfl, rfl, rfl, rfl⟩
  have taken : holdTaken (byte k.code) r s = s.setPort r.port { s.port r.port with held := some ⟨byte k.code, r.tag, r.payload, true⟩ } := by
    simp [holdTaken, hh]
  rw [request_exec, takeRequest, live_of_running hs, serveRequest, serve, if_pos may, taken, hp, if_pos rfl, answerWith,
    answerKind_code]
  rfl

/-- A port that holds another request discards the frame and counts an overrun. -/
theorem exec_request_overrun {k : RequestKind} {r : Request} {s : State} {h : HeldRequest} (hs : s.resetPin = false)
    (hh : (s.port r.port).held = some h) (hk : h.taken = true ∨ h.kind ≠ byte k.code ∨ h.tag ≠ r.tag ∨ h.payload ≠ r.payload) :
    exec (request k r) s = .next (s.modPort r.port StationPort.overrun) := by
  have busy : ¬mayTake (byte k.code) r s = true := fun e => by
    obtain ⟨a, b, c, d⟩ := (mayTake_of_held hh).1 e
    simp [a, b, c, d] at hk
  rw [request_exec, takeRequest, live_of_running hs, serveRequest, serve, if_neg busy]

theorem namesNoRequest_iff (k : Byte) : namesNoRequest k = true ↔ k.toNat = 0 ∨ 0x36 < k.toNat :=
  decide_eq_true_iff

theorem exec_badKindRequest {s : State} (hs : s.resetPin = false) (kind : Byte) (r : Request) :
    exec (.badKindRequest kind r) s
      = .next (if namesNoRequest kind then serve kind r (refuse .badKind) s
          else takeOwnStatus r.port s (s.modPort r.port fun q => q.complete kind r.tag r.payload)) :=
  live_of_running hs fun u => if namesNoRequest kind then serve kind r (refuse .badKind) u
    else takeOwnStatus r.port u (u.modPort r.port fun q => q.complete kind r.tag r.payload)

theorem exec_badKind {kind : Byte} {r : Request} {s : State} (h : Listening s r.port) (hk : kind.toNat = 0 ∨ 0x36 < kind.toNat) :
    exec (.badKindRequest kind r) s = .next (s.setPort r.port ((s.port r.port).answered kind (answerKind kind) r .badKind [])) := by
  have may : mayTake kind r s = true := by simp [mayTake, h.2]
  rw [exec_badKindRequest h.1, if_pos ((namesNoRequest_iff kind).2 hk), serve, if_pos may]
  simp only [refuse, answerWith, holdTaken, h.2, Option.isNone_none, if_true, State.modPort_eq, State.port_setPort_self,
    StationPort.seek, StationPort.answered, State.setPort_setPort]

/-- Settles O11: the three ways a complete frame goes. -/
theorem framesThatComplete : Obligations.FramesThatComplete := by
  refine ⟨fun k r s => exec_request_waiting, fun k r h s hs hh => ⟨exec_request_overrun hs hh, ?_⟩, fun kind r s h => ⟨fun hk => ?_, fun hk => ?_⟩⟩
  · refine (live_of_running hs fun u => u.modPort r.port StationPort.overrunHeld).trans ?_
    rw [State.modPort_eq, StationPort.overrunHeld, hh, Option.isSome_some, if_pos rfl]
    rfl
  · rw [exec_badKind h (by omega), answerKind, if_pos (by omega)]
  · rw [exec_badKind h (by omega), answerKind, if_neg (by omega)]

/-! ## Notices, masks and PORT_STATUS (R182 to R184) -/

/-- An accepted request whose owner changes its port alone. -/
theorem takeRequest_modPort {s : State} {r : Request} {k : RequestKind} (hasked : Asked s k r) {data : List Byte}
    {owner : State → Taken} {f : StationPort → StationPort}
    (ho : owner (s.taking k r) = accept data ((s.taking k r).modPort r.port f)) :
    takeRequest k r owner s
      = .next (s.setPort r.port
          { f { s.port r.port with
                receiver := .seeking, buffer := [], gapRunning := false, held := some ⟨byte k.code, r.tag, r.payload, true⟩ } with
            answer := some ⟨byte (k.code + 0x80), r.tag, byte ResultCode.ok.code :: data⟩ }) := by
  rw [takeRequest_permitted hasked.1 hasked.2, ho]
  simp only [accept, State.answering, State.taking, State.modPort_eq, State.port_setPort_self, State.setPort_setPort]

theorem mem_waiting (q : StationPort) (n : Notice) : n ∈ q.waiting ↔ n ∈ q.flags ∧ q.masked n.kind = false := by
  simp [StationPort.waiting]

theorem waiting_eq_nil (q : StationPort) : q.waiting = [] ↔ ∀ n ∈ q.flags, q.masked n.kind = true := by
  simp [StationPort.waiting]

/-- Settles O14: the notices that wait are those of unmasked kinds, in their order. -/
theorem fetchNotice : Obligations.FetchNotice := by
  intro r s hasked hp q
  have port : (s.taking .fetchNotice r).port r.port
      = { q with receiver := .seeking, buffer := [], gapRunning := false, held := some ⟨0x31, r.tag, r.payload, true⟩ } := by
    rw [State.taking, State.port_setPort_self]
    rfl
  refine ⟨fun masked => ?_, fun ordered unmasked => ?_⟩
  · have none : ((s.taking .fetchNotice r).port r.port).waiting = [] := by
      rw [port]; exact (waiting_eq_nil q).2 masked
    exact takeRequest_read hasked.1 hasked.2 (by simp only [ownFetchNotice, hp, none])
  · obtain ⟨m, hm, hmm⟩ := unmasked
    obtain ⟨n, rest, hw⟩ := List.exists_cons_of_ne_nil (List.ne_nil_of_mem ((mem_waiting q m).2 ⟨hm, hmm⟩))
    obtain ⟨hn, hnm⟩ := (mem_waiting q n).1 (hw ▸ List.mem_cons_self)
    have first : ∀ x ∈ rest, n.before x = true := by
      have inOrder : q.waiting.Pairwise fun x y => x.before y = true := (ordered r.port).filter _
      rw [hw] at inOrder
      exact (List.pairwise_cons.1 inOrder).1
    refine ⟨n, hn, hnm, fun x hx hxm => ?_, ?_⟩
    · have there : x ∈ n :: rest := hw ▸ (mem_waiting q x).2 ⟨hx, hxm⟩
      rcases List.mem_cons.1 there with e | e
      · exact .inl e
      · exact .inr ((Notice.before_iff n x).1 (first x e))
    · have waits : ((s.taking .fetchNotice r).port r.port).waiting = n :: rest := by rw [port]; exact hw
      have own : ownFetchNotice r (s.taking .fetchNotice r)
          = accept [byte n.kind, byte n.subject]
              ((s.taking .fetchNotice r).modPort r.port fun x => { x with flags := x.flags.filter fun m => decide (m ≠ n) }) := by
        simp only [ownFetchNotice, hp, waits]
      exact takeRequest_modPort hasked own

theorem index?_eq_some {k n : Nat} {i : Fin k} : index? k n = some i ↔ n = i.val + 1 := by
  unfold index?
  split
  · rw [Option.some.injEq, Fin.ext_iff]
    dsimp only
    omega
  · constructor
    · exact nofun
    · omega

theorem flag?_le {b : Byte} {x : Bool} (h : flag? b = some x) : ¬1 < b.toNat := by
  unfold flag? at h
  split at h
  · next e => rw [e]; decide
  · split at h
    · next e => rw [e]; decide
    · exact nomatch h

theorem flag?_of_le {b : Byte} (h : b.toNat ≤ 1) : flag? b = some (decide (b = 1)) := by
  have cases : b = 0 ∨ b = 1 := by
    have : b.toNat = 0 ∨ b.toNat = 1 := by omega
    exact this.imp (fun e => BitVec.eq_of_toNat_eq e) fun e => BitVec.eq_of_toNat_eq e
  rcases cases with e | e <;> rw [e] <;> rfl

/-- Settles O15: the masks are the port's own, and PORT_STATUS answers before it clears. -/
theorem noticeMasksAndPortStatus : Obligations.NoticeMasksAndPortStatus := by
  refine ⟨⟨fun r s kind value hasked hp => ⟨fun bad => ?_, fun i hi hlast hv => ?_⟩, fun p s hs => ?_⟩, fun r s hasked hp => ?_⟩
  · refine takeRequest_refused hasked.1 hasked.2 ?_
    simp only [ownSetNoticeMask, hp]
    split
    · next i m hi hm =>
      have small : ¬1 < value.toNat := flag?_le hm
      have named := index?_eq_some.1 hi
      have count : kindCount r.port < kind.toNat := by
        rcases bad with h | h | h
        · omega
        · exact h
        · exact absurd h small
      rw [if_pos count]
    · rfl
  · have named : index? 5 kind.toNat = some i := index?_of_names hi
    have count : ¬kindCount r.port < kind.toNat := fun h => by
      have last : i.val < kindCount r.port := hlast
      omega
    have own : ownSetNoticeMask r (s.taking .setNoticeMask r)
        = accept [] ((s.taking .setNoticeMask r).modPort r.port fun q => { q with masks := put q.masks i (decide (value = 1)) }) := by
      simp only [ownSetNoticeMask, hp, named, flag?_of_le hv, if_neg count]
    exact takeRequest_modPort hasked own
  · simp only [attn, hs, Bool.not_false, Bool.true_and, Bool.not_eq_true', List.isEmpty_eq_false_iff_exists_mem, mem_waiting]
  · have bytes : portStatusBytes (s.taking .portStatus r) r.port
        = [byte r.port.val, byte s.portRate.val, byte (s.port r.port).gapCount, byte (s.port r.port).checkCount,
            byte (s.port r.port).lengthCount, byte (s.port r.port).overrunCount]
          ++ word2 (s.port r.port).countingTime ++ ((s.port r.port).masks.toList.take (kindCount r.port)).map flag
          ++ word2 ((s.port r.port).flags.countP fun n => !(s.port r.port).masked n.kind) ++ [flag (attn s r.port)] := by
      simp only [portStatusBytes, attn, State.taking, State.port_setPort_self, StationPort.waiting, List.countP_eq_length_filter]
      rfl
    have own : ownPortStatus r (s.taking .portStatus r)
        = accept (portStatusBytes (s.taking .portStatus r) r.port)
            ((s.taking .portStatus r).modPort r.port StationPort.clearCounters) := by
      simp only [ownPortStatus, hp]
    refine (takeRequest_modPort hasked own).trans ?_
    rw [bytes]
    rfl

end Sys2Proof.Machine
end

section
/-! The receiver of a station port, character by character and frame by frame, and its CRC (R177). -/

namespace Sys2Proof.Machine

open Sys2Proof (Byte Comp Tanker Bay Chan RecipeSlot CargoClass Line Lane Port)

/-! ## The CRC of a run of bytes -/

/-- What is left of a message and its remainder when one more byte has been divided. -/
theorem MultipleOf.append {g m c b c' : Nat} (h : MultipleOf g ((m <<< 16) ^^^ c))
    (h' : MultipleOf g (((c ^^^ (b <<< 8)) <<< 8) ^^^ c')) : MultipleOf g ((((m <<< 8) ^^^ b) <<< 16) ^^^ c') := by
  have both := (h.shift 8).xor h'
  have cancel : (m <<< 16 ^^^ c) <<< 8 ^^^ ((c ^^^ b <<< 8) <<< 8 ^^^ c') = ((m <<< 8) ^^^ b) <<< 16 ^^^ c' := by
    rw [xor_shiftLeft, xor_shiftLeft, xor_shiftLeft, ← Nat.shiftLeft_add, ← Nat.shiftLeft_add, ← Nat.shiftLeft_add,
      Nat.xor_assoc, Nat.xor_assoc (c <<< 8), ← Nat.xor_assoc (c <<< 8), Nat.xor_self, Nat.zero_xor, Nat.xor_assoc]
  rwa [cancel] at both

theorem portCrc_divides (l : List Byte) :
    MultipleOf 0x18005 ((messageBits (l.map BitVec.reverse) <<< 16) ^^^ (portCrc l).reverse.toNat) := by
  induction l using List.reverseRecOn with
  | nil => exact .zero _
  | append_singleton l b ih =>
    rw [List.map_append, List.map_singleton, messageBits_append, portCrc_append]
    exact ih.append (portCrcByte_divides _ b)

/-! ## One character (R177) -/

theorem exec_portCharacter {s : State} (hs : s.resetPin = false) (p : Port) (ch : PortChar) :
    exec (.portCharacterReceived p ch) s = .next (takeOwnStatus p s (s.modPort p fun q => q.receive ch)) :=
  live_of_running hs fun u => takeOwnStatus p u (u.modPort p fun q => q.receive ch)

/-- A port that holds what it held takes no PORT_STATUS of its own. -/
theorem takeOwnStatus_same {p : Port} {s t : State} (h : (t.port p).held = (s.port p).held) : takeOwnStatus p s t = t := by
  unfold takeOwnStatus
  rw [h]
  split
  · next x hn hx => rw [hn] at hx; exact nomatch hx
  · rfl

/-- A character that completes no frame of a port that holds nothing. -/
theorem exec_portCharacter_same {s : State} (hs : s.resetPin = false) {p : Port} {ch : PortChar} {x : StationPort}
    (hr : (s.port p).receive ch = x) (hx : x.held = (s.port p).held) :
    exec (.portCharacterReceived p ch) s = .next (s.setPort p x) := by
  rw [exec_portCharacter hs, State.modPort_eq, hr]
  exact congrArg _ (takeOwnStatus_same (by rw [State.port_setPort_self]; exact hx))

theorem setPort_port (s : State) (p : Port) : s.setPort p (s.port p) = s := by
  have same : put s.ports p s.ports[p] = s.ports := put_eq_self ..
  show { s with ports := put s.ports p s.ports[p] } = s
  rw [same]

/-! ## The states of the receiver, one by one -/

/-- The receiver in the middle of a frame. -/
def StationPort.amid (q : StationPort) (x : ReceiverState) (buffer : List Byte) : StationPort :=
  { q with receiver := x, buffer := buffer, gapRunning := true }

theorem receive_seeking {q : StationPort} (h : q.receiver = .seeking) (ch : PortChar) :
    q.receive ch = if ch.value = 0xD3 ∧ ch.framingError = false then q.amid .length [ch.value] else q := by
  unfold StationPort.receive
  simp only [h]
  rfl

theorem receive_framingError {q : StationPort} (h : q.receiver ≠ .seeking) {ch : PortChar} (hf : ch.framingError = true) :
    q.receive ch = q.drop .framingError := by
  unfold StationPort.receive
  cases hr : q.receiver with
  | seeking => exact absurd hr h
  | length => simp only [hf, if_true]
  | body => simp only [hf, if_true]
  | check => simp only [hf, if_true]

theorem receive_length {q : StationPort} (h : q.receiver = .length) {ch : PortChar} (hf : ch.framingError = false) :
    q.receive ch = if 2 ≤ ch.value.toNat ∧ ch.value.toNat ≤ 60 then q.store .body ch.value else q.drop .badLength := by
  unfold StationPort.receive
  simp only [h, hf, Bool.false_eq_true, if_false]

theorem receive_bodyByte {q : StationPort} (h : q.receiver = .body) {ch : PortChar} (hf : ch.framingError = false)
    (hl : q.buffer.length < frameLength q.buffer + 2) :
    q.receive ch = q.store (if q.buffer.length + 1 = frameLength q.buffer + 2 then .check else .body) ch.value := by
  unfold StationPort.receive
  simp only [h, hf, Bool.false_eq_true, if_false]
  by_cases last : q.buffer.length + 1 = frameLength q.buffer + 2
  · rw [if_pos last, if_pos (by omega)]
  · rw [if_neg last, if_neg (by omega)]

theorem receive_check {q : StationPort} (h : q.receiver = .check) {ch : PortChar} (hf : ch.framingError = false)
    (hl : q.buffer.length + 1 < frameLength q.buffer + 4) : q.receive ch = q.store .check ch.value := by
  unfold StationPort.receive
  simp only [h, hf, Bool.false_eq_true, if_false]
  rw [if_neg (by omega)]

/-! ## The CRC of a frame judged -/

/-- The bytes that a frame's CRC covers (R177). -/
def coveredBytes (kind tag : Byte) (payload : List Byte) : List Byte := byte (payload.length + 2) :: kind :: tag :: payload

theorem frameLength_frame {payload : List Byte} (h : payload.length ≤ 58) (rest : List Byte) :
    frameLength (0xD3 :: byte (payload.length + 2) :: rest) = payload.length + 2 := by
  show (byte (payload.length + 2)).toNat = _
  rw [toNat_byte]
  omega

/-- A whole frame is judged by its two last bytes. -/
theorem judge_frame {kind tag a b : Byte} {payload : List Byte} (h : payload.length ≤ 58) {q : StationPort}
    (hq : q.buffer = (0xD3 :: coveredBytes kind tag payload) ++ [a, b]) :
    q.judge = if [a, b] = word2 (portCrc (coveredBytes kind tag payload)).toNat then q.complete kind tag payload
      else q.drop .crcMismatch := by
  have length : frameLength q.buffer = payload.length + 2 := by rw [hq]; exact frameLength_frame h _
  have covered : (q.buffer.drop 1).take (payload.length + 2 + 1) = coveredBytes kind tag payload := by
    rw [hq]
    show List.take _ (coveredBytes kind tag payload ++ [a, b]) = _
    exact List.take_left' (by simp [coveredBytes])
  have check : q.buffer.drop (payload.length + 2 + 2) = [a, b] := by
    rw [hq]
    exact List.drop_left' (by simp [coveredBytes])
  have fields : q.buffer.getD 2 0 = kind ∧ q.buffer.getD 3 0 = tag ∧ (q.buffer.drop 4).take (payload.length + 2 - 2) = payload := by
    rw [hq]
    refine ⟨rfl, rfl, ?_⟩
    show List.take _ (payload ++ [a, b]) = payload
    exact List.take_left' (by omega)
  obtain ⟨k, t, p⟩ := fields
  unfold StationPort.judge
  simp only [length, covered, check, k, t, p]
  by_cases good : [a, b] = word2 (portCrc (coveredBytes kind tag payload)).toNat
  · rw [if_pos good.symm, if_pos good]
  · rw [if_neg fun e => good e.symm, if_neg good]

/-- The last character of a frame (R177). -/
theorem receive_last {kind tag low : Byte} {payload : List Byte} (h : payload.length ≤ 58) {q : StationPort} {ch : PortChar}
    (hr : q.receiver = .check) (hq : q.buffer = (0xD3 :: coveredBytes kind tag payload) ++ [low]) (hf : ch.framingError = false) :
    q.receive ch
      = if [low, ch.value] = word2 (portCrc (coveredBytes kind tag payload)).toNat then
          (q.store .check ch.value).complete kind tag payload
        else (q.store .check ch.value).drop .crcMismatch := by
  have buffer : (q.store .check ch.value).buffer = (0xD3 :: coveredBytes kind tag payload) ++ [low, ch.value] := by
    simp [StationPort.store, hq]
  have length : frameLength q.buffer + 4 ≤ q.buffer.length + 1 := by
    rw [hq, coveredBytes, List.cons_append, List.cons_append, frameLength_frame h]
    simp
  rw [← judge_frame h buffer]
  unfold StationPort.receive
  simp only [hr, hf, Bool.false_eq_true, if_false, if_pos length]

/-! ## A frame character by character -/

/-- The characters of kind, tag and payload, one after another, to the CRC. -/
theorem receive_body (q : StationPort) {payload : List Byte} (h : payload.length ≤ 58) (l pre : List Byte) (hl : l ≠ [])
    (hlen : pre.length + l.length = payload.length + 2) :
    l.foldl (fun x b => x.receive ⟨b, false⟩) (q.amid .body (0xD3 :: byte (payload.length + 2) :: pre))
      = q.amid .check (0xD3 :: byte (payload.length + 2) :: (pre ++ l)) := by
  induction l generalizing pre with
  | nil => exact absurd rfl hl
  | cons b l ih =>
    have length : frameLength (q.amid .body (0xD3 :: byte (payload.length + 2) :: pre)).buffer = payload.length + 2 :=
      frameLength_frame h pre
    have size : (q.amid .body (0xD3 :: byte (payload.length + 2) :: pre)).buffer.length = pre.length + 2 := rfl
    rw [List.length_cons] at hlen
    rw [List.foldl_cons, receive_bodyByte rfl rfl (by omega), size, length]
    cases l with
    | nil =>
      rw [List.length_nil] at hlen
      rw [if_pos (by omega)]
      rfl
    | cons c l =>
      rw [List.length_cons] at hlen
      rw [if_neg (by omega)]
      refine (ih (pre ++ [b]) (List.cons_ne_nil _ _) (by simp; omega)).trans ?_
      rw [List.append_assoc, List.singleton_append]

theorem receive_frame (kind tag : Byte) {payload : List Byte} {q : StationPort} (h : payload.length ≤ 58)
    (hr : q.receiver = .seeking) (hh : q.held = none) :
    (frameBytes kind tag payload).foldl (fun x b => x.receive ⟨b, false⟩) q
      = { q with receiver := .seeking, buffer := [], gapRunning := false, held := some ⟨kind, tag, payload, false⟩ } := by
  have value : (byte (payload.length + 2)).toNat = payload.length + 2 := by
    rw [toNat_byte]
    omega
  have start : q.receive ⟨0xD3, false⟩ = q.amid .length [0xD3] := by
    unfold StationPort.receive
    simp only [hr]
    rfl
  have length : (q.amid .length [0xD3]).receive ⟨byte (payload.length + 2), false⟩ = q.amid .body [0xD3, byte (payload.length + 2)] := by
    unfold StationPort.receive
    simp only [StationPort.amid, Bool.false_eq_true, if_false, value]
    rw [if_pos (by omega)]
    rfl
  have body := receive_body q h (kind :: tag :: payload) [] (by simp) (by simp)
  let a : Byte := byte (portCrc (coveredBytes kind tag payload)).toNat
  let b : Byte := byte ((portCrc (coveredBytes kind tag payload)).toNat / 256)
  have check : (q.amid .check (0xD3 :: coveredBytes kind tag payload)).receive ⟨a, false⟩
      = q.amid .check (0xD3 :: coveredBytes kind tag payload ++ [a]) := by
    have length : frameLength (q.amid .check (0xD3 :: coveredBytes kind tag payload)).buffer = payload.length + 2 :=
      frameLength_frame h _
    have size : (q.amid .check (0xD3 :: coveredBytes kind tag payload)).buffer.length = payload.length + 4 := rfl
    exact receive_check rfl rfl (by omega)
  have last : (q.amid .check (0xD3 :: coveredBytes kind tag payload ++ [a])).receive ⟨b, false⟩
      = { q with receiver := .seeking, buffer := [], gapRunning := false, held := some ⟨kind, tag, payload, false⟩ } := by
    have good : [a, (⟨b, false⟩ : PortChar).value] = word2 (portCrc (coveredBytes kind tag payload)).toNat := rfl
    rw [receive_last h rfl rfl rfl, if_pos good]
    simp only [StationPort.complete, StationPort.store, StationPort.amid, StationPort.seek, hh]
  calc (frameBytes kind tag payload).foldl (fun x b => x.receive ⟨b, false⟩) q
      = [a, b].foldl (fun x b => x.receive ⟨b, false⟩) ((kind :: tag :: payload).foldl (fun x b => x.receive ⟨b, false⟩)
          (((q.receive ⟨0xD3, false⟩).receive ⟨byte (payload.length + 2), false⟩))) := by
        rw [← List.foldl_append]
        rfl
    _ = [a, b].foldl (fun x b => x.receive ⟨b, false⟩) (q.amid .check (0xD3 :: coveredBytes kind tag payload)) := by
        rw [start, length, body]
        rfl
    _ = _ := by rw [List.foldl_cons, check, List.foldl_cons, last, List.foldl_nil]

/-! ## The statement -/

/-- A PORT_STATUS whose frame completes on a port that holds nothing is taken at once, as its own command takes it (R184; logs 3 and
4). -/
theorem takeOwnStatus_completed {s : State} (hs : s.resetPin = false) {p : Port} (hh : (s.port p).held = none) (tag : Byte)
    (payload : List Byte) :
    Host.Outcome.next (takeOwnStatus p s (s.setPort p { (s.port p).seek with held := some ⟨0x33, tag, payload, false⟩ }))
      = exec (.portStatus ⟨p, tag, payload⟩) s := by
  have asked : Asked s .portStatus ⟨p, tag, payload⟩ := ⟨⟨hs, hh⟩, by simp [RequestKind.permitted, RequestKind.access, Access.admits]⟩
  refine Eq.trans ?_ (takeRequest_permitted asked.1 asked.2 _).symm
  unfold takeOwnStatus
  simp only [hh, State.port_setPort_self]
  have own : (0x33 : Byte) = byte RequestKind.portStatus.code := rfl
  rw [if_pos own, serve, if_pos]
  · simp only [holdTaken, State.modPort_eq, State.port_setPort_self, Option.isNone_some, Bool.false_eq_true, if_false,
      State.setPort_setPort]
    rfl
  · simp [mayTake, HeldRequest.isWaiting]

/-- Settles O12: the receiver state by state, a whole frame, the events named by themselves, and the CRC as a remainder. -/
theorem receiver : Obligations.Receiver := by
  refine ⟨fun p ch s hs => ⟨fun h => ?_, fun h hf => ?_, fun h hf => ?_, fun h hf hl => ?_, fun h hf hl => ?_,
      fun kind tag low payload h hr hq hf => ⟨fun bad => ?_, fun good hh => ?_, fun good hh hk => ?_, fun good hh hk => ?_⟩⟩,
    fun kind tag payload q h hr hh => receive_frame kind tag h hr hh, fun p s hs => ?_, portCrc_divides, by decide +kernel⟩
  · rw [exec_portCharacter_same hs (receive_seeking h ch) (by split <;> rfl)]
    split
    · next e => rw [← e.1]; rfl
    · rw [setPort_port]
  · exact exec_portCharacter_same hs (receive_framingError h hf) rfl
  · rw [exec_portCharacter_same hs (receive_length h hf) (by split <;> rfl)]
    split <;> rfl
  · exact exec_portCharacter_same hs (receive_bodyByte h hf hl) rfl
  · refine (exec_portCharacter_same hs (receive_check h hf hl) rfl).trans ?_
    rw [StationPort.store, ← h]
  · exact exec_portCharacter_same hs ((receive_last h hr hq hf).trans (if_neg bad)) rfl
  · have done := (receive_last h hr hq hf).trans (if_pos good)
    obtain ⟨x, hx⟩ := Option.ne_none_iff_exists'.1 hh
    have held : ((s.port p).store .check ch.value).held = some x := hx
    rw [StationPort.complete, held] at done
    exact exec_portCharacter_same hs done rfl
  · have done := (receive_last h hr hq hf).trans (if_pos good)
    have held : ((s.port p).store .check ch.value).held = none := hh
    rw [StationPort.complete, held] at done
    have other : kind ≠ byte RequestKind.portStatus.code := hk
    rw [exec_portCharacter hs, State.modPort_eq, done]
    unfold takeOwnStatus
    simp only [hh, State.port_setPort_self, if_neg other]
    rfl
  · have done := (receive_last h hr hq hf).trans (if_pos good)
    have held : ((s.port p).store .check ch.value).held = none := hh
    rw [StationPort.complete, held, hk] at done
    rw [exec_portCharacter hs, State.modPort_eq, done]
    exact takeOwnStatus_completed hs hh tag payload
  · have live : ∀ f : StationPort → StationPort, Machine.live s (fun u => u.modPort p f) = .next (s.setPort p (f (s.port p))) :=
      fun f => live_of_running hs _
    refine ⟨live _, live _, live _, (live StationPort.gapOut).trans ?_, (live StationPort.sent).trans ?_,
      fun hh => (live StationPort.overrunHeld).trans ?_⟩
    · rw [StationPort.gapOut]
      split
      · rw [setPort_port]
      · rfl
    · rw [StationPort.sent]
      cases ha : (s.port p).answer with
      | none => rw [Option.isSome_none, if_neg Bool.false_ne_true, if_pos rfl, setPort_port]
      | some a => rfl
    · rw [StationPort.overrunHeld, hh, Option.isSome_none, if_neg Bool.false_ne_true, setPort_port]

end Sys2Proof.Machine
end

section
/-! The yard-open flag (R38): what sets and clears it, and the requests that ask for it before their own checks. -/

namespace Sys2Proof.Machine

open Sys2Proof (Byte Comp Tanker Bay Chan RecipeSlot CargoClass Line Lane Port)

/-! ## Accepted requests -/

/-- A request that its owner accepts is answered OK in the state the owner made. -/
theorem takeRequest_accepted {s t : State} {r : Request} {k : RequestKind} {data : List Byte} {owner : State → Taken}
    (hasked : Asked s k r) (ho : owner (s.taking k r) = accept data t) :
    takeRequest k r owner s = .next (t.answering k r ⟨.ok, data⟩) := by
  rw [takeRequest_permitted hasked.1 hasked.2, ho]
  rfl

/-- The result code that a byte stands for (R187). -/
def ResultCode.ofByte (b : Byte) : Option ResultCode :=
  [ResultCode.ok, .badKind, .notPermitted, .badArg, .noSuch, .wrongState, .busy, .tableFull, .queueFull, .inUse, .barred,
    .classMismatch, .unfit, .notDocked, .notReady, .notOpen][b.toNat]?

theorem ResultCode.ofByte_code (x : ResultCode) : ofByte (byte x.code) = some x := by cases x <;> rfl

theorem ResultCode.byte_code_injective {x y : ResultCode} (h : byte x.code = byte y.code) : x = y :=
  Option.some.inj ((ofByte_code x).symm.trans (h ▸ ofByte_code y))

/-- An answer tells its result code. -/
theorem State.result_of_answering {s t : State} {k : RequestKind} {r : Request} {x : Reply} {y : ResultCode} {data : List Byte}
    (h : t.answering k r x = s.answered k r y data) : x.result = y := by
  have answers := congrArg (fun u => (u.port r.port).answer) h
  simp only [State.answering, State.answered, State.port_setPort_self, StationPort.answered, Option.some.injEq] at answers
  exact ResultCode.byte_code_injective (List.cons.inj (congrArg (fun f => f.payload) answers)).1

/-! ## NOT_OPEN comes first (R38) -/

theorem whenOpen_of_open {s : State} (h : s.yardOpen = true) (x : Taken) : whenOpen s x = x := if_pos h

theorem whenOpen_of_closed {s : State} (h : s.yardOpen = false) (x : Taken) : whenOpen s x = refuse .notOpen s := by
  rw [whenOpen, h]
  rfl

theorem owner_of_closed {k : RequestKind} (hk : k ∈ openOnly) (r : Request) {s : State} (h : s.yardOpen = false) :
    k.owner r s = refuse .notOpen s := by
  simp only [openOnly, List.mem_cons, List.not_mem_nil, or_false] at hk
  rcases hk with rfl | rfl | rfl | rfl | rfl | rfl <;> exact whenOpen_of_closed h _

/-- A request came past the check of the yard-open flag. -/
def PastOpen (x : Taken) : Prop := x.2.result ≠ .notOpen

namespace PastOpen

variable {s : State}

theorem refused {c : ResultCode} (h : c ≠ .notOpen := by decide) : PastOpen (refuse c s) := h

theorem accepted (data : List Byte) (t : State) : PastOpen (accept data t) := nofun

theorem ite {P : Prop} [Decidable P] {x y : Taken} (hx : PastOpen x) (hy : PastOpen y) : PastOpen (if P then x else y) := by
  split <;> assumption

theorem namedTanker {n : Byte} {k : Tanker → TankerData → Taken} (h : ∀ i x, PastOpen (k i x)) : PastOpen (nameTanker n s k) := by
  unfold nameTanker
  split <;> [exact refused; (split <;> [exact refused; exact h _ _])]

theorem namedChannel {p : Port} {n : Byte} {k : Chan → Taken} (h : ∀ c, PastOpen (k c)) : PastOpen (nameChannel p n s k) := by
  unfold nameChannel
  split
  · exact refused
  · exact ite (refused) (ite (refused) (h _))

theorem bookTanker (fleet : Nat) (ds : List Description) (s : State) : PastOpen (bookTanker fleet ds s) := by
  unfold Machine.bookTanker
  split <;> [exact refused; exact ite (refused) (accepted _ _)]

end PastOpen

/-- While the yard is open no owner's own check refuses NOT_OPEN. -/
theorem owner_pastOpen {k : RequestKind} (hk : k ∈ openOnly) (r : Request) {s : State} (h : s.yardOpen = true) :
    PastOpen (k.owner r s) := by
  simp only [openOnly, List.mem_cons, List.not_mem_nil, or_false] at hk
  rcases hk with rfl | rfl | rfl | rfl | rfl | rfl
  · simp only [RequestKind.owner, ownBook, whenOpen_of_open h]
    split
    · exact .refused
    · exact .ite (.refused) (.ite (.refused) (PastOpen.bookTanker _ _ _))
  · simp only [RequestKind.owner, ownPark, whenOpen_of_open h]
    split
    · exact .namedTanker fun i x => .ite (.refused) <| .ite (.refused) <| .ite (.refused) <|
        .ite (.refused) (.accepted _ _)
    · exact .refused
  · simp only [RequestKind.owner, ownStartRun, whenOpen_of_open h]
    split
    · refine .namedChannel fun c => .ite (.refused) <| .ite (.refused) ?_
      split
      · exact .refused
      · exact .ite (.refused) (.accepted _ _)
    · exact .refused
  · simp only [RequestKind.owner, ownStartRehearsal, whenOpen_of_open h]
    split
    · refine .namedChannel fun c => ?_
      split
      · exact .refused
      · refine .ite (.refused) ?_
        split
        · exact .refused
        · exact .ite (.refused) (.accepted _ _)
    · exact .refused
  · simp only [RequestKind.owner, ownInspect, whenOpen_of_open h]
    split
    · split
      · exact .ite (.refused) <| .ite (.refused) <| .ite (.refused) <| .ite (.refused) <|
          .ite (.refused) (.accepted _ _)
      · exact .refused
    · exact .refused
  · simp only [RequestKind.owner, ownAuthorizeFill, whenOpen_of_open h]
    split
    · split
      · exact .ite (.refused) <| .ite (.refused) <| .ite (.refused) <| .ite (.refused) <|
          .ite (.refused) <| .ite (.refused) (.accepted _ _)
      · exact .refused
    · exact .refused

/-! ## The flag through the commands -/

/-- A command that writes the configuration, or a request that carries such writes, keeps the flag when it is not one of the flag's own. -/
theorem exec_yardOpen {c : Instr} {s t : State} (h : exec c s = .next t) (power : ∀ x, c ≠ .powerOnReset x)
    (opens : ∀ r, c ≠ .openYard r) (resets : ∀ r, c ≠ .yardReset r) : t.yardOpen = s.yardOpen := by
  by_cases hc : mayConfigure c
  · rcases hc with ⟨x, rfl⟩ | ⟨x, hx⟩ | ⟨k, r, hk, rfl⟩
    · exact absurd rfl (power x)
    · exact (readingRequest_amended hx h).yardOpen
    · have byRecord : k.readsByRecord = false := readsByRecord_of_configures hk
      have done : Configured k s t :=
        live_keeps (P := Configured k s) ((request_exec k r s).symm.trans h) (.refl s) (.serveRequest (Configured.owner byRecord r) s)
      exact done.yardOpen (fun e => opens r (e ▸ rfl)) fun e => resets r (e ▸ rfl)
  · exact (Quiet.exec hc h).yardOpen

/-- Settles O16: the flag is one of the fields that each command keeps or sets, and the six owners ask for it first. -/
theorem yardOpenFlag : Obligations.YardOpenFlag := by
  refine ⟨fun x s => ⟨_, rfl, rfl⟩, fun r s hasked hp => ?_, fun r s hasked => ⟨fun hp => ?_, fun hp => ?_⟩,
    fun c s t h power opens resets => exec_yardOpen h power opens resets, fun k r s hk hasked => ⟨fun closed => ?_, fun isOpen => ?_⟩⟩
  · have ho : ownOpenYard r (s.taking .openYard r) = accept [] { s.taking .openYard r with yardOpen := true } := by
      simp only [ownOpenYard, hp]
    refine (takeRequest_accepted hasked ho).trans ?_
    rw [← answering_taking]
    rfl
  · refine ⟨_, exec_yardReset_unprotected hasked hp, ?_⟩
    exact congrArg State.yardOpen (answered_unprotectedReset s r _ rfl)
  · refine ⟨_, exec_yardReset_protected hasked hp, ?_⟩
    obtain ⟨-, -, -, yard⟩ := protectedReset_tables (s.taking .yardReset r)
    generalize protectedReset (s.taking .yardReset r) = u at yard ⊢
    exact yard
  · exact (request_exec k r s).trans (takeRequest_refused hasked.1 hasked.2 (owner_of_closed hk r closed))
  · intro h
    rw [request_exec, takeRequest_permitted hasked.1 hasked.2] at h
    exact owner_pastOpen (s := s.taking k r) hk r isOpen (State.result_of_answering (Host.Outcome.next.inj h))

end Sys2Proof.Machine
end

section
/-! The matrix, the limit table, the staging buffer and the yard settings as their requests write and read them (R32 to R36, R46 to R49,
R185). -/

namespace Sys2Proof.Machine

open Sys2Proof (Byte Comp Tanker Bay Chan RecipeSlot CargoClass Line Lane Port)

/-! ## Classes and cells as received (R27, R32) -/

theorem class0?_byte (c : CargoClass) : class0? (byte c.val) = some c := class0?_eq_some.2 rfl

theorem class0?_eq_none {n : Byte} (h : 31 < n.toNat) : class0? n = none := by
  unfold class0?
  rw [dif_neg]
  omega

theorem class0?_of_toNat {n : Byte} {c : CargoClass} (h : n.toNat = c.val) : class0? n = some c := by
  rw [class0?_eq_some, ← h, byte_toNat]

theorem cell?_code (x : Cell) : cell? (byte x.code) = some x := by
  cases x with
  | none => rfl
  | slot r => revert r; decide
  | barred => rfl

theorem cell?_eq_none {n : Byte} (h : 16 < n.toNat) : cell? n = none := by
  have zero : n ≠ 0 := fun e => by rw [e] at h; exact absurd h (by decide)
  have sixteen : n ≠ 16 := fun e => by rw [e] at h; exact absurd h (by decide)
  rw [cell?, if_neg zero, if_neg sixteen, index?_of_namesNone (.inr (by omega))]

theorem readAll_map {α β : Type} {f : β → Option α} {g : α → β} (h : ∀ x, f (g x) = some x) (l : List α) :
    readAll f (l.map g) = some l := by
  induction l with
  | nil => rfl
  | cons x xs ih => rw [List.map_cons, readAll_cons, h, ih]; rfl

theorem rowOf_toList (cells : Vector Cell 32) : rowOf cells.toList = cells := by
  ext i hi
  simp [rowOf]

theorem any_namesEmptySlot (s : State) (cells : Vector Cell 32) :
    cells.toList.any (namesEmptySlot s) = true ↔ ∃ c : CargoClass, ∃ x : RecipeSlot, cells[c] = .slot x ∧ s.recipe x = none := by
  have empty (x : Cell) : namesEmptySlot s x = true ↔ ∃ r, x = .slot r ∧ s.recipe r = none := by
    cases x <;> simp [namesEmptySlot]
  rw [List.any_eq_true]
  constructor
  · rintro ⟨x, hx, he⟩
    obtain ⟨i, hi, rfl⟩ := List.mem_iff_getElem.1 hx
    obtain ⟨r, hr, none⟩ := (empty _).1 he
    exact ⟨⟨i, by simpa using hi⟩, r, by simpa using hr, none⟩
  · rintro ⟨c, r, hr, none⟩
    exact ⟨cells[c], by simp, (empty _).2 ⟨r, hr, none⟩⟩

/-! ## WRITE_MATRIX_ROW and READ_MATRIX_ROW (R32, R33) -/

/-- A payload of a row number and the codes of 32 cells comes to the check of the slots it names. -/
theorem ownWriteMatrixRow_row {r : Request} {row : CargoClass} {cells : Vector Cell 32}
    (hp : r.payload = byte row.val :: cells.toList.map fun x => byte x.code) (s : State) :
    ownWriteMatrixRow r s
      = if cells.toList.any (namesEmptySlot s) then refuse .badArg s
        else accept [] { s with matrix := put s.matrix row cells } := by
  simp only [ownWriteMatrixRow, hp, class0?_byte, readAll_map cell?_code, Vector.length_toList, ne_eq, not_true_eq_false, if_false,
    rowOf_toList]

theorem ownWriteMatrixRow_badArg {r : Request} {n : Byte} {cells : List Byte} (hp : r.payload = n :: cells)
    (h : 31 < n.toNat ∨ ∃ b ∈ cells, 16 < b.toNat) (s : State) : ownWriteMatrixRow r s = refuse .badArg s := by
  rcases h with h | ⟨b, hb, h⟩
  · simp only [ownWriteMatrixRow, hp, class0?_eq_none h]
  · have none : readAll cell? cells = none := (readAll_eq_none_iff _ _).2 ⟨b, hb, cell?_eq_none h⟩
    simp only [ownWriteMatrixRow, hp, none]
    cases class0? n <;> rfl

/-! ## WRITE_LIMITS and READ_LIMITS (R36) -/

section

variable {r : Request} {n q : Byte} {m : Measures}

/-- The ten bytes of a WRITE_LIMITS are an entry number, the four maxima and the inspection-required byte (R190). -/
theorem ownWriteLimits_bytes (hf : m.film < 65536) (ht : m.turbidity < 65536) (hc : m.conductivity < 65536) (hd : m.depth < 65536)
    (hp : r.payload = n :: measureBytes m ++ [q]) :
    ∃ f0 f1 t0 t1 c0 c1 d0 d1, r.payload = [n, f0, f1, t0, t1, c0, c1, d0, d1, q]
      ∧ (⟨read2 f0 f1, read2 t0 t1, read2 c0 c1, read2 d0 d1⟩ : Measures) = m :=
  ⟨_, _, _, _, _, _, _, _, hp, by rw [read2_word2 hf, read2_word2 ht, read2_word2 hc, read2_word2 hd]⟩

variable (hp : ∃ f0 f1 t0 t1 c0 c1 d0 d1, r.payload = [n, f0, f1, t0, t1, c0, c1, d0, d1, q]
  ∧ (⟨read2 f0 f1, read2 t0 t1, read2 c0 c1, read2 d0 d1⟩ : Measures) = m)

include hp

theorem ownWriteLimits_entry {i : Fin 31} {required : Bool} (hi : Names n i) (hq : flag? q = some required) (s : State) :
    ownWriteLimits r s
      = if maximaInRange m then accept [] { s with limits := put s.limits i ⟨m, required⟩ } else refuse .badArg s := by
  obtain ⟨f0, f1, t0, t1, c0, c1, d0, d1, bytes, rfl⟩ := hp
  simp only [ownWriteLimits, bytes, index?_of_names hi, hq]

theorem ownWriteLimits_badArg (h : NamesNone 31 n ∨ flag? q = none) (s : State) : ownWriteLimits r s = refuse .badArg s := by
  obtain ⟨f0, f1, t0, t1, c0, c1, d0, d1, bytes, rfl⟩ := hp
  rcases h with hn | hq
  · simp only [ownWriteLimits, bytes, index?_of_namesNone hn]
  · simp only [ownWriteLimits, bytes, hq]
    cases index? 31 n.toNat <;> rfl

end

theorem maximaInRange_iff (m : Measures) :
    maximaInRange m = true ↔ m.film ≤ 1000 ∧ m.turbidity ≤ 4000 ∧ m.conductivity ≤ 20000 ∧ m.depth ≤ 500 := by
  simp [maximaInRange]

/-- Settles O17: a row or an entry in range is put whole, and every other payload is refused before the store is touched. -/
theorem matrixRowsAndLimits : Obligations.MatrixRowsAndLimits := by
  refine ⟨⟨fun r s row cells hasked hp => ?_, fun r s n cells hasked hp h => ?_, fun r s n hasked hp => ⟨fun h => ?_, fun row h => ?_⟩⟩,
    fun r s n q m hasked hf ht hc hd hp => ?_, fun r s n hasked hp => ⟨fun h => ?_, fun i h => ?_⟩⟩
  · have ho := ownWriteMatrixRow_row hp (s.taking .writeMatrixRow r)
    have names := any_namesEmptySlot (s.taking .writeMatrixRow r) cells
    refine ⟨fun empty => ?_, fun full => ?_⟩
    · exact takeRequest_refused hasked.1 hasked.2 (ho.trans (if_pos (names.2 empty)))
    · have none : ¬cells.toList.any (namesEmptySlot (s.taking .writeMatrixRow r)) = true := fun h => by
        obtain ⟨c, x, hc, hx⟩ := names.1 h
        exact full c x hc hx
      refine (takeRequest_accepted hasked (ho.trans (if_neg none))).trans ?_
      rw [← answering_taking]
      rfl
  · exact takeRequest_refused hasked.1 hasked.2 (ownWriteMatrixRow_badArg hp h _)
  · exact takeRequest_refused hasked.1 hasked.2 (by simp only [ownReadMatrixRow, hp, class0?_eq_none h])
  · exact takeRequest_read hasked.1 hasked.2 (by simp only [ownReadMatrixRow, hp, class0?_of_toNat h]; rfl)
  · have bytes := ownWriteLimits_bytes hf ht hc hd hp
    refine ⟨fun bad => ?_, fun i hi film turbidity conductivity depth required => ?_⟩
    · refine takeRequest_refused hasked.1 hasked.2 ?_
      by_cases none : NamesNone 31 n ∨ flag? q = none
      · exact ownWriteLimits_badArg bytes none _
      · obtain ⟨named, read⟩ := not_or.1 none
        obtain ⟨required, hq⟩ := Option.ne_none_iff_exists'.1 read
        obtain ⟨i, hi⟩ : ∃ i : Fin 31, Names n i := ⟨⟨n.toNat - 1, by omega⟩, by dsimp only [Names]; omega⟩
        refine (ownWriteLimits_entry bytes hi hq _).trans (if_neg fun inRange => ?_)
        obtain ⟨film, turbidity, conductivity, depth⟩ := (maximaInRange_iff m).1 inRange
        have one := flag?_le hq
        omega
    · have ho := ownWriteLimits_entry bytes hi (flag?_of_le required) (s.taking .writeLimits r)
      refine (takeRequest_accepted hasked (ho.trans (if_pos ((maximaInRange_iff m).2 ⟨film, turbidity, conductivity, depth⟩)))).trans ?_
      rw [← answering_taking]
      rfl
  · exact takeRequest_refused hasked.1 hasked.2 (by simp only [ownReadLimits, hp, index?_of_namesNone h])
  · exact takeRequest_read hasked.1 hasked.2 (by simp only [ownReadLimits, hp, index?_of_names h]; rfl)

/-! ## Steps as received (R41, R190) -/

theorem supply?_code (x : Supply) : supply? (byte x.code) = some x := by cases x <;> rfl

theorem supply?_eq_some {b : Byte} {x : Supply} (h : supply? b = some x) : b = byte x.code := by
  unfold supply? at h
  split at h
  · next e => rw [e, ← Option.some.inj h]; rfl
  · split at h
    · next e => rw [e, ← Option.some.inj h]; rfl
    · split at h
      · next e => rw [e, ← Option.some.inj h]; rfl
      · split at h
        · next e => rw [e, ← Option.some.inj h]; rfl
        · exact nomatch h

theorem mode?_code (x : StepMode) : mode? (byte x.code) = some x := by cases x <;> rfl

theorem mode?_eq_some {b : Byte} {x : StepMode} (h : mode? b = some x) : b = byte x.code := by
  unfold mode? at h
  split at h
  · next e => rw [e, ← Option.some.inj h]; rfl
  · split at h
    · next e => rw [e, ← Option.some.inj h]; rfl
    · split at h
      · next e => rw [e, ← Option.some.inj h]; rfl
      · exact nomatch h

theorem flag?_flag (x : Bool) : flag? (flag x) = some x := by cases x <;> rfl

theorem flag?_eq_some {b : Byte} {x : Bool} (h : flag? b = some x) : b = flag x := by
  unfold flag? at h
  split at h
  · next e => rw [e, ← Option.some.inj h]; rfl
  · split at h
    · next e => rw [e, ← Option.some.inj h]; rfl
    · exact nomatch h

theorem RecipeStep.fitsBytes_iff (x : RecipeStep) :
    x.fitsBytes = true ↔ x.hotUnits < 256 ∧ x.amount < 65536 ∧ x.extraPasses < 256 ∧ x.guard < 65536 := by
  simp [RecipeStep.fitsBytes]

theorem toNat_byte_of_lt {n : Nat} (h : n < 256) : (byte n).toNat = n := by
  rw [toNat_byte, Nat.mod_eq_of_lt h]

/-- The ten bytes of a step are read back as that step, where it is allowed. -/
theorem step?_stepBytes {x : RecipeStep} (h : x.fitsBytes = true) : step? (stepBytes x) = if stepAllowed x then some x else none := by
  obtain ⟨hot, amount, extra, guard⟩ := x.fitsBytes_iff.1 h
  have bytes : stepBytes x = [byte x.supply.code, flag x.dose, flag x.drain, byte x.hotUnits, byte x.mode.code, byte x.amount,
      byte (x.amount / 256), byte x.extraPasses, byte x.guard, byte (x.guard / 256)] := rfl
  rw [bytes]
  simp only [step?, supply?_code, flag?_flag, mode?_code, read2_word2 amount, read2_word2 guard, toNat_byte_of_lt hot,
    toNat_byte_of_lt extra]

/-- What is read as a step are the ten bytes of a step that fits them. -/
theorem eq_stepBytes_of_step? {l : List Byte} {x : RecipeStep} (h : step? l = some x) : x.fitsBytes = true ∧ l = stepBytes x := by
  unfold step? at h
  split at h
  · split at h
    · next su d dr hu mo a0 a1 ex g0 g1 _ _ _ _ supply dose drain mode hsu hd hdr hmo =>
      dsimp only at h
      split at h
      · obtain rfl := Option.some.inj h
        refine ⟨(RecipeStep.fitsBytes_iff _).2 ⟨hu.isLt, read2_lt _ _, ex.isLt, read2_lt _ _⟩, ?_⟩
        rw [stepBytes, supply?_eq_some hsu, flag?_eq_some hd, flag?_eq_some hdr, mode?_eq_some hmo]
        simp only [word2_read2, byte_toNat, List.cons_append, List.nil_append]
      · exact nomatch h
    · exact nomatch h
  · exact nomatch h

theorem stepAllowed_iff (x : RecipeStep) : stepAllowed x = true ↔ x.meetsR41 := by
  rw [stepAllowed, decide_eq_true_eq, RecipeStep.meetsR41]
  cases hm : x.mode <;> cases hs : x.supply <;> simp <;> omega

/-! ## The staging buffer (R46 to R49) -/

/-- Settles O18: each request replaces the buffer alone by what its own part makes of it, or is refused. -/
theorem stagingBuffer : Obligations.StagingBuffer := by
  have changed {k : RequestKind} {r : Request} {s : State} {owner : State → Taken} {x : Staging} (hasked : Asked s k r)
      (ho : owner (s.taking k r) = accept [] { s.taking k r with staging := x }) :
      takeRequest k r owner s = .next { s.answered k r .ok [] with staging := x } := by
    refine (takeRequest_accepted hasked ho).trans ?_
    rw [← answering_taking]
    rfl
  refine ⟨fun r s hasked hp => changed hasked (by simp only [ownClearStaging, hp]; rfl),
    ⟨fun r s n x hasked fits hp => ⟨fun bad => ?_, fun i hi allowed => ?_⟩, fun r s n fields hasked hp unread => ?_⟩,
    fun r s n hasked hp => ?_, fun r s n hasked hp => ⟨fun none => ?_, fun i hi => ⟨fun empty => ?_, fun x hx => ?_⟩⟩⟩
  · refine takeRequest_refused hasked.1 hasked.2 ?_
    simp only [ownWriteStagingStep, hp, step?_stepBytes fits]
    rcases bad with none | bad
    · rw [index?_of_namesNone none]
    · rw [if_neg (mt (stepAllowed_iff x).1 bad)]
      cases index? 12 n.toNat <;> rfl
  · refine changed hasked ?_
    simp only [ownWriteStagingStep, hp, step?_stepBytes fits, if_pos ((stepAllowed_iff x).2 allowed), index?_of_names hi]
    rfl
  · have none : step? fields = none := Option.eq_none_iff_forall_ne_some.2 fun x hx =>
      let ⟨fits, e⟩ := eq_stepBytes_of_step? hx
      unread x fits e
    refine takeRequest_refused hasked.1 hasked.2 ?_
    simp only [ownWriteStagingStep, hp, none]
    cases index? 12 n.toNat <;> rfl
  · by_cases h : 1 ≤ n.toNat ∧ n.toNat ≤ 4
    · rw [if_pos h]
      exact changed hasked (by simp only [ownSetStagingRounds, hp, if_pos h]; rfl)
    · rw [if_neg h]
      exact takeRequest_refused hasked.1 hasked.2 (by simp only [ownSetStagingRounds, hp, if_neg h])
  · exact takeRequest_refused hasked.1 hasked.2 (by simp only [ownLoadStaging, hp, index?_of_namesNone none])
  · have there : (s.taking .loadStaging r).recipe i = none := empty
    exact takeRequest_refused hasked.1 hasked.2 (by simp only [ownLoadStaging, hp, index?_of_names hi, there])
  · have there : (s.taking .loadStaging r).recipe i = some x := hx
    have ho : ownLoadStaging r (s.taking .loadStaging r)
        = accept [] { s.taking .loadStaging r with staging := Staging.load x } := by
      simp only [ownLoadStaging, hp, index?_of_names hi, there]
    exact ⟨_, changed hasked ho, rfl, rfl, rfl, fun j => by simp [Staging.load]⟩

/-! ## The yard settings (R185) -/

theorem Setting.ofId?_of_names {n : Byte} {x : Setting} (h : Names n x.index) : Setting.ofId? n.toNat = some x := by
  rw [Setting.ofId?, if_neg (by omega), h, Nat.add_sub_cancel]
  exact x.ofIndex

theorem Setting.ofId?_of_namesNone {n : Byte} (h : NamesNone 23 n) : Setting.ofId? n.toNat = none := by
  unfold Setting.ofId?
  split
  · rfl
  · have length : Setting.all.length = 23 := rfl
    exact List.getElem?_eq_none (by omega)

theorem Setting.inRange_iff (x : Setting) (v : Nat) : x.inRange v = true ↔ x.range.1 ≤ v ∧ v ≤ x.range.2 := by
  simp [Setting.inRange]

/-- Settles O20: a value in range is put at its setting; the resets' own laws say what they do to the store. -/
theorem yardSettings : Obligations.YardSettings := by
  refine ⟨by decide, fun r s n a b c hasked hp => ⟨fun none => ?_, fun x hx => ?_⟩,
    fun r s n hasked hp => ⟨fun none => ?_, fun x hx => ?_⟩, fun x s => ⟨_, rfl, fun y => powerOn_setting _ _ _ _ _ _ y⟩, fun r s hasked => ?_⟩
  · exact takeRequest_refused hasked.1 hasked.2 (by simp only [ownSetYard, hp, Setting.ofId?_of_namesNone none])
  · intro v
    by_cases h : x.range.1 ≤ v ∧ v ≤ x.range.2
    · have ho : ownSetYard r (s.taking .setYard r)
          = accept [] { s.taking .setYard r with settings := put s.settings x.index v } := by
        simp only [ownSetYard, hp, Setting.ofId?_of_names hx]
        exact if_pos ((x.inRange_iff v).2 h)
      rw [if_pos h]
      refine (takeRequest_accepted hasked ho).trans ?_
      rw [← answering_taking]
      rfl
    · rw [if_neg h]
      refine takeRequest_refused hasked.1 hasked.2 ?_
      simp only [ownSetYard, hp, Setting.ofId?_of_names hx]
      exact if_neg (mt (x.inRange_iff v).1 h)
  · exact takeRequest_refused hasked.1 hasked.2 (by simp only [ownReadYard, hp, Setting.ofId?_of_namesNone none])
  · exact takeRequest_read hasked.1 hasked.2 (by simp only [ownReadYard, hp, Setting.ofId?_of_names hx]; rfl)
  · have served : exec (.yardReset r) s = takeRequest .yardReset r (ownYardReset r) s := rfl
    obtain ⟨t, h⟩ := exec_served (.yardReset r) s
    have done : Configured .yardReset s t :=
      live_keeps (P := Configured .yardReset s) (served.symm.trans h.next) (.refl s)
        (.serveRequest (Configured.owner (k := .yardReset) rfl r) s)
    exact ⟨t, h.next, done.settings nofun⟩

end Sys2Proof.Machine
end

section
/-! What the reading requests answer, byte by byte (R21, R33, R50, R72, R98, R116, R141, R154, R171, R189, R190). -/

namespace Sys2Proof.Machine

open Sys2Proof (Byte Comp Tanker Bay Chan RecipeSlot CargoClass Line Lane Port)

/-! ## The layouts -/

theorem tankerBytes_some (t : TankerData) :
    tankerBytes (some t)
      = [if t.bay = none then 2 else 3] ++ word2 t.fleet ++ [byte t.compartments.length]
        ++ t.compartments.map (fun k => byte (k.val + 1)) ++ [byte (t.bay.elim 0 fun b => b.val + 1)] ++ word3 t.arrival := by
  have code : byte (tankerCode (some t)) = if t.bay = none then 2 else 3 := by cases h : t.bay <;> simp only [tankerCode, h] <;> rfl
  have list (l : List Comp) : (l.map fun i => [byte (number i)]).flatten = l.map fun k => byte (k.val + 1) := by
    induction l with
    | nil => rfl
    | cons i l ih => exact congrArg (byte (number i) :: ·) ih
  simp only [tankerBytes, code, listBytes, list, List.append_assoc, List.cons_append, List.nil_append]
  rfl

theorem grantBytes_eq (p : Plant) (c : Chan) :
    grantBytes p c
      = match p.grants[c] with
        | none => []
        | some g =>
          [byte (c.val + 1), if g.pair then byte ((headB (bayOf c)).val + 1) else 0, byte g.kind.code]
            ++ [byte g.units.hot, byte g.units.steam, byte g.units.doser] := by
  unfold grantBytes
  cases p.grants[c] with
  | none => rfl
  | some g => cases h : g.pair <;> simp only [Option.elim, h] <;> rfl

theorem claimBytes_eq (p : Plant) (c : Chan) :
    claimBytes p c
      = match p.claims[c] with
        | none => []
        | some k =>
          [byte (c.val + 1), byte k.kind.code] ++ [byte k.units.hot, byte k.units.steam, byte k.units.doser]
            ++ [byte k.skips, flag k.anchored] := by
  unfold claimBytes
  cases p.claims[c] <;> rfl

theorem tokenBytes_eq (p : Plant) (c : Chan) :
    tokenBytes p c
      = word2 (p.tokens[c]).allowance ++ word2 (p.tokens[c]).remaining
        ++ [if (p.tokens[c]).allowance ≠ 0 ∧ (p.tokens[c]).remaining = 0 then 1 else 2] := by
  have spent : byte (if p.exhausted c then 1 else 2)
      = if (p.tokens[c]).allowance ≠ 0 ∧ (p.tokens[c]).remaining = 0 then 1 else 2 := by
    simp only [Plant.exhausted, decide_eq_true_eq]
    split <;> rfl
  rw [tokenBytes, spent]

theorem laneBytes_eq {s : State} (h : s.resetPin = false) (l : Lane) :
    laneBytes s l
      = [byte (s.lane l).state.code, byte ((s.lane l).context.elim 0 fun y => y.comp.val + 1),
          (s.lane l).context.elim 0xFF fun y => byte y.product.val]
        ++ word2 ((s.lane l).context.elim 0 fun y => y.volume) ++ word2 (s.lane l).counter ++ word2 (s.lane l).compare
        ++ word2 (s.lane l).capture
        ++ [byte ((s.lane l).cause.elim 0 FillOutcome.code), byte ((s.lane l).lastOutcome.elim 0 FillOutcome.code),
            byte (s.lane l).noFlow, byte (s.lane l).settle, flag (decide ((s.lane l).state = .active)), flag (s.lane l).arm] := by
  have product : classByte ((s.lane l).context.map fun y => y.product) = (s.lane l).context.elim 0xFF fun y => byte y.product.val := by
    cases (s.lane l).context <;> rfl
  have valve : valveOpen s l = decide ((s.lane l).state = .active) := by rw [valveOpen, h]; rfl
  rw [laneBytes, product, valve]
  rfl

/-! ## The answers -/

/-- Settles O22: each owner accepts its layout of what stands, in the state it was asked in. -/
theorem readsOfTheState : Obligations.ReadsOfTheState := by
  refine ⟨fun r s n => ⟨fun hasked hp => ⟨fun h => ?_, fun i h => ?_⟩,
    fun hasked hp => ⟨fun h => ?_, fun i h => ⟨fun free => ?_, fun t ht => ?_⟩⟩,
    fun hasked hp => ⟨fun h => ?_, fun i h => ⟨fun empty => ?_, fun x hx => ?_⟩⟩, fun hasked hp => ?_, fun hasked hp => ?_⟩,
    fun r s n => ⟨fun hasked hp => ⟨fun h => ?_, fun b h => ?_⟩, fun hasked hp => ⟨fun h => ?_, fun c h => ?_⟩, fun hasked hp => ?_⟩,
    fun r s n hp => ⟨fun hasked => ⟨fun h => ?_, fun l h => ?_⟩, fun hasked => ⟨fun h => ?_, fun l h => ?_⟩⟩⟩
  · exact takeRequest_refused hasked.1 hasked.2 (by simp only [ownReadCompartment, hp, index?_of_namesNone h])
  · exact takeRequest_read hasked.1 hasked.2 (by simp only [ownReadCompartment, hp, index?_of_names h]; rfl)
  · exact takeRequest_refused hasked.1 hasked.2 (by simp only [ownReadTanker, hp, index?_of_namesNone h])
  · have there : (s.taking .readTanker r).tanker i = none := free
    exact takeRequest_read hasked.1 hasked.2 (by simp only [ownReadTanker, hp, index?_of_names h, there]; rfl)
  · have there : (s.taking .readTanker r).tanker i = some t := ht
    exact takeRequest_read hasked.1 hasked.2 (by simp only [ownReadTanker, hp, index?_of_names h, there, tankerBytes_some])
  · exact takeRequest_refused hasked.1 hasked.2 (by simp only [ownReadRecipe, hp, index?_of_namesNone h])
  · have there : (s.taking .readRecipe r).recipe i = none := empty
    exact takeRequest_read hasked.1 hasked.2 (by simp only [ownReadRecipe, hp, index?_of_names h, there]; rfl)
  · have there : (s.taking .readRecipe r).recipe i = some x := hx
    exact takeRequest_read hasked.1 hasked.2 (by simp only [ownReadRecipe, hp, index?_of_names h, there]; rfl)
  · exact takeRequest_read hasked.1 hasked.2 (by simp only [ownReadStaging, hp]; rfl)
  · exact takeRequest_read hasked.1 hasked.2 (by simp only [ownReadClock, hp]; rfl)
  · exact takeRequest_refused hasked.1 hasked.2 (by simp only [ownReadBay, hp, index?_of_namesNone h])
  · intro head
    have layout : bayBytes (s.taking .readBay r) b
        = [if (s.bay b).twoHead then 2 else 1, byte ((s.bay b).parked.elim 0 fun i => i.val + 1), byte (s.bay b).queue.length]
          ++ ((s.bay b).queue.map fun i => [byte (i.val + 1), flag (s.comp i).expedite]).flatten
          ++ head (headA b) ++ head (headB b) := by
      have heads : byte (if (s.bay b).twoHead then 2 else 1) = if (s.bay b).twoHead then 2 else 1 := by split <;> rfl
      rw [← heads]
      rfl
    rw [← layout]
    exact takeRequest_read hasked.1 hasked.2 (by simp only [ownReadBay, hp, index?_of_names h])
  · exact takeRequest_refused hasked.1 hasked.2 (by simp only [ownChannelStatus, hp, index?_of_namesNone h])
  · intro x run five claim grant
    have layout : channelBytes (s.taking .channelStatus r) c
        = [byte x.state.code, byte (x.binding.elim 0 fun y => y.comp.val + 1), byte (x.binding.elim 0 fun y => y.role.code),
            byte (x.rehearsal.elim 0 fun y => y.val + 1), byte (run.elim 0 fun y => y.slot.val + 1), byte (run.elim 0 fun y => y.step),
            byte (run.elim 0 fun y => y.passCounter), byte (run.elim 0 fun y => y.rounds)]
          ++ word2 (run.elim 0 fun y => y.passTimer) ++ word2 (run.elim 0 fun y => y.runningTime)
          ++ word2 (s.chan (leadOf s c)).pauseTimer
          ++ [byte x.drainTimer, byte x.meter, byte (x.meter / 256), flag x.headDone, flag x.headIn, flag s.permit]
          ++ five (valveLines s c) ++ five x.latch
          ++ [byte claim.hot, byte claim.steam, byte claim.doser, byte grant.hot, byte grant.steam, byte grant.doser,
              byte (x.reason.elim 0 Reason.code)] := by
      have same : channelBytes (s.taking .channelStatus r) c = channelBytes s c := rfl
      rw [same]
      simp only [channelBytes, unitBytes, lineBytes, word2, List.append_assoc, List.cons_append, List.nil_append]
      rfl
    rw [← layout]
    exact takeRequest_read hasked.1 hasked.2 (by simp only [ownChannelStatus, hp, index?_of_names h])
  · intro a units tokens waiting claim holding grant
    have layout : arbiterBytes (s.taking .readArbiter r)
        = [byte a.hotCapacity, 1, 2] ++ units a.free ++ [byte a.scheme.code] ++ a.priority.map (fun c => byte (c.val + 1))
          ++ [byte (s.setting .skipLimit)] ++ word2 (s.setting .refreshPeriod) ++ word2 a.refreshTimer
          ++ ((List.finRange 8).map tokens).flatten ++ [byte waiting.length] ++ (waiting.map claim).flatten
          ++ [byte holding.length] ++ (holding.map grant).flatten := by
      have same : arbiterBytes (s.taking .readArbiter r) = arbiterBytes s := rfl
      have eachToken : tokenBytes a = tokens := funext (tokenBytes_eq a)
      have eachClaim : claimBytes a = claim := funext (claimBytes_eq a)
      have eachGrant : grantBytes a = grant := funext (grantBytes_eq a)
      rw [same]
      simp only [← eachToken, ← eachClaim, ← eachGrant, List.append_assoc, List.cons_append, List.nil_append]
      simp only [arbiterBytes, listBytes, List.append_assoc, List.cons_append, List.nil_append]
      rfl
    rw [← layout]
    exact takeRequest_read hasked.1 hasked.2 (by simp only [ownReadArbiter, hp])
  · exact takeRequest_refused hasked.1 hasked.2 (by simp only [ownLineStatus, hp, nameLine, index?_of_namesNone h])
  · intro x
    have layout : lineStatusBytes ((s.taking .lineStatus r).line l)
        = [byte x.state.code, flag x.docked, byte (x.bound.elim 0 fun i => i.val + 1), byte x.bitOrder.code, byte x.speed,
            byte (bitPeriod x.speed), byte (bitPeriod x.speed / 256), byte x.extraGuard, byte x.checkMode.code, byte x.maxLength,
            byte x.exchange.waits, byte x.exchange.repeats, byte (x.exchange.factor.elim 0 fun f => f),
            byte (x.lastError.elim 0 LinkError.code), byte (x.lastResult.elim 0 InspectionOutcome.code)] := by
      have same : (s.taking .lineStatus r).line l = x := rfl
      have factor : x.exchange.factor.getD 0 = x.exchange.factor.elim 0 fun f => f := by cases x.exchange.factor <;> rfl
      rw [same, ← factor]
      rfl
    rw [← layout]
    exact takeRequest_read hasked.1 hasked.2 (by simp only [ownLineStatus, hp, nameLine, index?_of_names h])
  · exact takeRequest_refused hasked.1 hasked.2 (by simp only [ownLaneStatus, hp, nameLane, index?_of_namesNone h])
  · intro x
    rw [← laneBytes_eq hasked.1.1]
    exact takeRequest_read hasked.1 hasked.2 (by simp only [ownLaneStatus, hp, nameLane, index?_of_names h]; rfl)

/-- Settles O23: presence decides each part of the layout. -/
theorem compartmentLayout : Obligations.CompartmentLayout := by
  intro i c
  refine ⟨fun free => by rw [compartmentBytes, if_pos free]; rfl, fun inUse => ?_⟩
  intro bit
  have binding : bindingBytes c.binding
      = match c.binding with
        | none => [0, 0]
        | some (.single x) => [byte (x.val + 1), 0]
        | some (.pair b) => [byte (2 * b.val + 1), byte (2 * b.val + 2)] := by
    rcases c.binding with - | x | b <;> rfl
  have readings : measureBytes (c.readings.elim ⟨0, 0, 0, 0⟩ fun r => r.worst) ++ [byte (c.readings.elim 0 fun r => failedBits r.failed)]
      = match c.readings with
        | none => List.replicate 9 0
        | some x =>
          word2 x.worst.film ++ word2 x.worst.turbidity ++ word2 x.worst.conductivity ++ word2 x.worst.depth
            ++ [byte (bit (.film ∈ x.failed) 1 + bit (.turbidity ∈ x.failed) 2 + bit (.conductivity ∈ x.failed) 4
                  + bit (.depth ∈ x.failed) 8)] := by
    cases c.readings with
    | none => rfl
    | some x => simp only [Option.elim, measureBytes, failedBits, bit, decide_eq_true_eq]
  have cert : certBytes c.cert
      = match c.cert with
        | none => List.replicate 9 0
        | some x => word2 x.number ++ word3 x.issue ++ [byte x.clearedClass.val] ++ word3 x.expiry := by
    cases c.cert <;> rfl
  have fill : fillBytes c.fill
      = match c.fill with
        | none => List.replicate 7 0
        | some x => [byte (x.lane.val + 1), byte x.product.val] ++ word2 x.authorized ++ word2 x.metered ++ [byte x.outcome.code] := by
    cases c.fill <;> rfl
  constructor
  · have layout : compartmentBytes i c
        = [byte (i.val + 1), byte c.state.code, byte (presence c), byte (c.tanker.val + 1), byte c.position, byte c.capacity,
            byte (c.capacity / 256), byte c.hatches, byte c.lastClass.val, byte (c.nextClass.elim 0 fun x => x.val), flag c.expedite,
            byte c.tries, byte (c.plan.elim 0 fun x => x.slot.val + 1), byte (c.plan.elim 0 fun x => x.roundsDone)]
          ++ bindingBytes c.binding
          ++ (measureBytes (c.readings.elim ⟨0, 0, 0, 0⟩ fun r => r.worst) ++ [byte (c.readings.elim 0 fun r => failedBits r.failed)])
          ++ [byte (c.hold.elim 0 HoldReason.code), byte (c.hold.elim 0 HoldReason.subCode)]
          ++ certBytes c.cert ++ fillBytes c.fill := by
      rw [compartmentBytes, if_neg inUse]
      simp only [List.append_assoc, List.cons_append, List.nil_append]
      rfl
    rw [layout, binding, readings, cert, fill]
    rfl
  · have bindingLength : (bindingBytes c.binding).length = 2 := by rcases c.binding with - | x | b <;> rfl
    have certLength : (certBytes c.cert).length = 9 := by cases c.cert <;> rfl
    have fillLength : (fillBytes c.fill).length = 7 := by cases c.fill <;> rfl
    have measureLength (m : Measures) : (measureBytes m).length = 8 := rfl
    have wordLength (k : Nat) : (word2 k).length = 2 := rfl
    rw [compartmentBytes, if_neg inUse]
    simp only [List.length_append, List.length_cons, List.length_nil, bindingLength, certLength, fillLength, measureLength, wordLength]

end Sys2Proof.Machine
end

section
/-! Queue-ins, certificates and minutes (R7, R37, R155, R156). -/

namespace Sys2Proof.Machine

open Sys2Proof (Byte Comp Tanker Bay Chan RecipeSlot CargoClass Line Lane Port)

/-! ## The limit entry of a class (R37) -/

theorem limitEntry_of_class (s : State) {c : CargoClass} {k : Fin 31} (h : c.val = k.val + 1) : limitEntry s (some c) = s.limits[k] := by
  have named : index? 31 c.val = some k := index?_eq_some.2 h
  simp only [limitEntry, named]

/-! ## Queue-ins (R7) -/

theorem queueIn_of_class {b : Bay} {i : Comp} {s : State} {c : CargoClass} (h : (s.comp i).nextClass = some c) :
    queueIn b i s = queueInOn (s.cell (s.comp i).lastClass c) b i s := by
  unfold queueIn
  rw [h]

theorem issueCertificate_of_class {i : Comp} {s : State} {c : CargoClass} (h : (s.comp i).nextClass = some c) :
    (newCertificate i s).clearedClass = c
      ∧ issueCertificate i s
          = raiseNotice officePort 3 (i.val + 1)
              { s.setComp i { s.comp i with state := .cleared, cert := some (newCertificate i s) } with
                certCounter := if (newCertificate i s).number < 65535 then (newCertificate i s).number + 1 else 1 } := by
  have next : nextNumber (newCertificate i s).number
      = if (newCertificate i s).number < 65535 then (newCertificate i s).number + 1 else 1 := by
    unfold nextNumber
    split <;> split <;> omega
  constructor
  · simp only [newCertificate, h, Option.getD_some]
  · rw [← next]
    rfl

/-! ## Certificate numbers (R156) -/

/-- The certificate number that is `k` upward from `n`, 65535 being followed by 1. -/
def numberUp (n k : Nat) : Nat := (n - 1 + k) % 65535 + 1

theorem nextNumber_numberUp (n k : Nat) : nextNumber (numberUp n k) = numberUp n (k + 1) := by
  unfold nextNumber numberUp
  split <;> omega

theorem numberUp_nextNumber {n : Nat} (h : 1 ≤ n ∧ n ≤ 65535) (k : Nat) : numberUp (nextNumber n) k = numberUp n (k + 1) := by
  unfold nextNumber numberUp
  split <;> omega

/-- The search stops at the first number that is not held, when one of those it tries is not. -/
theorem firstFree_spec {held : List Nat} {tries n : Nat} (h : 1 ≤ n ∧ n ≤ 65535) (free : ∃ j ≤ tries, numberUp n j ∉ held) :
    ∃ k, numberUp n k ∉ held ∧ (∀ j < k, numberUp n j ∈ held) ∧ firstFree held tries n = numberUp n k := by
  have zero : ∀ {m}, 1 ≤ m ∧ m ≤ 65535 → numberUp m 0 = m := by unfold numberUp; omega
  induction tries generalizing n with
  | zero =>
    obtain ⟨j, hj, hfree⟩ := free
    obtain rfl := Nat.le_zero.1 hj
    exact ⟨0, hfree, nofun, (zero h).symm⟩
  | succ tries ih =>
    by_cases hn : n ∈ held
    · obtain ⟨j, hj, hfree⟩ := free
      have later : j ≠ 0 := fun e => hfree (by rw [e, zero h]; exact hn)
      obtain ⟨j, rfl⟩ := Nat.exists_eq_succ_of_ne_zero later
      have next : 1 ≤ nextNumber n ∧ nextNumber n ≤ 65535 := by unfold nextNumber; split <;> omega
      obtain ⟨k, hk, before, e⟩ := ih next ⟨j, Nat.le_of_succ_le_succ hj, by rw [numberUp_nextNumber h]; exact hfree⟩
      refine ⟨k + 1, numberUp_nextNumber h k ▸ hk, fun m hm => ?_, ?_⟩
      · cases m with
        | zero => rw [zero h]; exact hn
        | succ m =>
          rw [← numberUp_nextNumber h]
          exact before m (Nat.lt_of_succ_lt_succ hm)
      · rw [firstFree, if_pos hn, e, numberUp_nextNumber h]
    · exact ⟨0, (zero h).symm ▸ hn, nofun, by rw [firstFree, if_neg hn, zero h]⟩

/-- More numbers in a row than are held are not all held. -/
theorem exists_number_free {held : List Nat} (h : held.length < 65535) (n : Nat) : ∃ j ≤ held.length, numberUp n j ∉ held := by
  by_contra all
  have inHeld : ∀ j ∈ Finset.range (held.length + 1), numberUp n j ∈ held.toFinset := fun j hj => by
    by_contra out
    exact all ⟨j, Nat.lt_succ_iff.1 (Finset.mem_range.1 hj), fun there => out (List.mem_toFinset.2 there)⟩
  have apart : Set.InjOn (numberUp n) (Finset.range (held.length + 1)) := fun a ha b hb e => by
    have la := Finset.mem_range.1 (Finset.mem_coe.1 ha)
    have lb := Finset.mem_range.1 (Finset.mem_coe.1 hb)
    simp only [numberUp] at e
    omega
  have count := Finset.card_le_card_of_injOn (numberUp n) inHeld apart
  rw [Finset.card_range] at count
  have bound := held.toFinset_card_le
  omega

theorem mem_heldNumbers (s : State) (n : Nat) :
    n ∈ heldNumbers s
      ↔ (∃ (j : Comp) (x : Certificate), (s.comp j).cert = some x ∧ x.number = n)
        ∨ ∃ d ∈ s.departures, ∃ x : Certificate, d.cert = some x ∧ x.number = n := by
  simp [heldNumbers]

theorem heldNumbers_length {s : State} (h : DeparturesFit s) : (heldNumbers s).length ≤ 128 := by
  have records : ((List.finRange 96).filterMap fun i => (s.comp i).cert.map fun c => c.number).length ≤ 96 :=
    (List.length_filterMap_le _ _).trans (List.length_finRange ..).le
  have copies : (s.departures.filterMap fun d => d.cert.map fun c => c.number).length ≤ 32 :=
    (List.length_filterMap_le _ _).trans h
  rw [heldNumbers, List.length_append]
  omega

/-- Settles O25: a queue-in is its cell's branch, and the number of an issue is what the search of the held numbers finds. -/
theorem queueInAndCertificate : Obligations.QueueInAndCertificate := by
  refine ⟨fun b i c k s hc hk => ?_, fun i c s hc fit low high => ?_⟩
  · intro x
    refine ⟨fun p hp => ?_, fun none required => ?_, fun none required => ?_, fun barred => ?_⟩
    · rw [queueIn_of_class hc, hp]
      rfl
    · have entry : (limitEntry s (s.comp i).nextClass).inspectionRequired = true := by rw [hc, limitEntry_of_class s hk]; exact required
      rw [queueIn_of_class hc, none, queueInOn, if_pos entry]
      rfl
    · have entry : ¬(limitEntry s (s.comp i).nextClass).inspectionRequired = true := by
        rw [hc, limitEntry_of_class s hk, required]
        decide
      have issued : queueIn b i s = issueCertificate i s := by rw [queueIn_of_class hc, none, queueInOn, if_neg entry]
      obtain ⟨cleared, issue⟩ := issueCertificate_of_class hc
      exact ⟨issued, newCertificate i s, cleared, issued.trans issue⟩
    · rw [queueIn_of_class hc, barred]
      rfl
  · intro up heldNumber
    have few := heldNumbers_length fit
    obtain ⟨k, free, before, found⟩ := firstFree_spec ⟨low, high⟩ (exists_number_free (held := heldNumbers s) (by omega) s.certCounter)
    refine ⟨k, mt (mem_heldNumbers s _).2 free, fun j hj => (mem_heldNumbers s _).1 (before j hj), ?_⟩
    have certificate : newCertificate i s
        = { number := up k, issue := s.clock.minute, clearedClass := c
            expiry := (s.clock.minute + s.setting .validity) % 16777216 } := by
      rw [newCertificate, found, hc]
      rfl
    have next : nextNumber (newCertificate i s).number = up (k + 1) := by
      rw [certificate]
      exact nextNumber_numberUp _ _
    rw [← certificate, ← next]
    rfl

/-- Settles O26: the difference modulo 2^24, as natural numbers spell it. -/
theorem minuteComparison : Obligations.MinuteComparison := by
  intro m c hm hc
  have modulus : Config.minuteModulus = 16777216 := rfl
  have reach : Config.minuteReach = 8388607 := rfl
  rw [minuteReached, decide_eq_true_eq, modulus, reach]
  omega

end Sys2Proof.Machine
end

section
/-! The requests on compartment records and tanker entries: SET_NEXT_CLASS, DISPOSE, WITHDRAW, DEPART, TAKE_DEPARTURE (R6, R16, R17, R19,
R20). -/

namespace Sys2Proof.Machine

open Sys2Proof (Byte Comp Tanker Bay Chan RecipeSlot CargoClass Line Lane Port)

/-! ## Names in requests (R3) -/

section Names

variable {n : Byte} {s : State}

theorem nameComp_badArg (h : NamesNone 96 n) (s : State) (k : Comp → CompartmentRecord → Taken) : nameComp n s k = refuse .badArg s := by
  rw [nameComp, index?_of_namesNone h]

theorem nameComp_free {i : Comp} (h : Names n i) (hs : (s.comp i).state = .free) (k : Comp → CompartmentRecord → Taken) :
    nameComp n s k = refuse .noSuch s := by
  simp only [nameComp, index?_of_names h, if_pos hs]

theorem nameComp_of_names {i : Comp} (h : Names n i) (hs : (s.comp i).state ≠ .free) (k : Comp → CompartmentRecord → Taken) :
    nameComp n s k = k i (s.comp i) := by
  simp only [nameComp, index?_of_names h, if_neg hs]

theorem nameTanker_badArg (h : NamesNone 16 n) (s : State) (k : Tanker → TankerData → Taken) : nameTanker n s k = refuse .badArg s := by
  rw [nameTanker, index?_of_namesNone h]

theorem nameTanker_free {i : Tanker} (h : Names n i) (hs : s.tanker i = none) (k : Tanker → TankerData → Taken) :
    nameTanker n s k = refuse .noSuch s := by
  simp only [nameTanker, index?_of_names h, hs]

theorem nameTanker_of_names {i : Tanker} (h : Names n i) {t : TankerData} (hs : s.tanker i = some t) (k : Tanker → TankerData → Taken) :
    nameTanker n s k = k i t := by
  simp only [nameTanker, index?_of_names h, hs]

end Names

/-! ## A notice raised while a request is answered (R181) -/

theorem State.setPort_comm (s : State) {p q : Port} (h : p ≠ q) (x y : StationPort) :
    (s.setPort p x).setPort q y = (s.setPort q y).setPort p x := by
  have ports : put (put s.ports p x) q y = put (put s.ports q y) p x :=
    Vector.set_comm _ _ fun e => h (Fin.ext e)
  rw [State.setPort, State.setPort, State.setPort, State.setPort]
  simp only [ports]

theorem answering_raiseNotice (s : State) (p : Port) (kind subject : Nat) (k : RequestKind) (r : Request) (x : Reply) :
    (raiseNotice p kind subject s).answering k r x = raiseNotice p kind subject (s.answering k r x) := by
  by_cases h : p = r.port
  · subst h
    simp only [State.answering, raiseNotice_eq, State.port_setPort_self, State.setPort_setPort]
  · simp only [State.answering, raiseNotice_eq, State.port_setPort_ne _ _ (Ne.symm h), State.port_setPort_ne _ _ h]
    exact State.setPort_comm _ h _ _

/-! ## SET_NEXT_CLASS and DISPOSE (R6, R16) -/

theorem queueInAlone_unparked {i : Comp} {s : State} (h : parkedBay i s = none) : queueInAlone i s = s := by
  rw [queueInAlone, h]

theorem queueInAlone_parked {i : Comp} {s : State} {b : Bay} (h : parkedBay i s = some b) :
    queueInAlone i s
      = if ((queueIn b i s).comp i).state = .queued then
          (queueIn b i s).setBay b { (queueIn b i s).bay b with owed := ((queueIn b i s).bay b).owed + 1 }
        else queueIn b i s := by
  rw [queueInAlone, h]
  rfl

/-- What a queue-in within a request does to the queue leaves the state of the record as it is. -/
theorem comp_queueInAlone_parked {i : Comp} {s : State} {b : Bay} (h : parkedBay i s = some b) :
    (queueInAlone i s).comp i = (queueIn b i s).comp i := by
  rw [queueInAlone_parked h]
  split <;> rfl

theorem parkedBay_setComp {i : Comp} {s : State} {x : CompartmentRecord} (h : x.tanker = (s.comp i).tanker) :
    parkedBay i (s.setComp i x) = parkedBay i s := by
  rw [parkedBay, parkedBay, State.comp_setComp_self, h]
  rfl

/-- A request that queues its record in is answered with the state that the record came to. -/
theorem takeRequest_queueInAlone {s : State} {r : Request} {k : RequestKind} {owner : State → Taken} {i : Comp} {x : CompartmentRecord}
    (hasked : Asked s k r) (ho : owner (s.taking k r) = recordState i (queueInAlone i ((s.taking k r).setComp i x)))
    (hx : x.tanker = (s.comp i).tanker) :
    (parkedBay i s = none → takeRequest k r owner s = .next ((s.answered k r .ok [byte x.state.code]).setComp i x))
      ∧ ∀ b, parkedBay i s = some b →
          let u := queueIn b i ((s.taking k r).setComp i x)
          let v := if (u.comp i).state = .queued then u.setBay b { u.bay b with owed := (u.bay b).owed + 1 } else u
          takeRequest k r owner s = .next (v.answering k r ⟨.ok, [byte (u.comp i).state.code]⟩) := by
  have parked : parkedBay i ((s.taking k r).setComp i x) = parkedBay i s := parkedBay_setComp (s := s.taking k r) hx
  refine ⟨fun h => ?_, fun b h => ?_⟩
  · rw [queueInAlone_unparked (parked.trans h), recordState, State.comp_setComp_self] at ho
    refine (takeRequest_accepted hasked ho).trans ?_
    rw [← answering_taking]
    rfl
  · rw [recordState, comp_queueInAlone_parked (parked.trans h), queueInAlone_parked (parked.trans h)] at ho
    exact takeRequest_accepted hasked ho

theorem class1?_eq_none {k : Byte} (h : k.toNat = 0 ∨ 31 < k.toNat) : class1? k = none := by
  rw [class1?, dif_neg]
  omega

theorem class1?_of_toNat {k : Byte} {c : CargoClass} (h : k.toNat = c.val) (hc : c ≠ 0) : class1? k = some c :=
  class1?_eq_some.2 ⟨hc, by rw [← h, byte_toNat]⟩

section Owners

variable {r : Request} {n k a : Byte} {i : Comp} {c : CargoClass} {s : State}

/-- SET_NEXT_CLASS of a record that is there, its checks in order (R6). -/
theorem ownSetNextClass_named (hp : r.payload = [n, k]) (hi : Names n i) (hs : (s.comp i).state ≠ .free) (hk : k.toNat = c.val)
    (hc : c ≠ 0) :
    ownSetNextClass r s
      = if (s.comp i).state ≠ .booked then refuse .wrongState s
        else if s.cell (s.comp i).lastClass c = .barred then refuse .barred s
        else recordState i (queueInAlone i (s.setComp i { s.comp i with nextClass := some c })) := by
  simp only [ownSetNextClass, hp, nameComp_of_names hi hs, class1?_of_toNat hk hc, State.modComp_eq]

/-- DISPOSE of a record that is there, its checks in order (R16). -/
theorem ownDispose_named (hp : r.payload = [n, a]) (hi : Names n i) (hs : (s.comp i).state ≠ .free) :
    ownDispose r s
      = if a ≠ 1 ∧ a ≠ 2 then refuse .badArg s
        else if (s.comp i).state ≠ .held then refuse .wrongState s
        else if a = 1 then recordState i (queueInAlone i (s.setComp i (disposed (s.comp i) .booked)))
        else recordState i (s.setComp i (disposed (s.comp i) .inspectWait)) := by
  simp only [ownDispose, hp, nameComp_of_names hi hs]

end Owners

/-- Settles O27: the owners' checks one by one, and the queue-in of both where the tanker is parked. -/
theorem setNextClassAndDispose : Obligations.SetNextClassAndDispose := by
  refine ⟨fun r s n k hasked hp => ⟨fun h => ?_, fun i hi => ?_⟩, fun r s n a hasked hp => ⟨fun h => ?_, fun i hi => ?_⟩⟩
  · exact takeRequest_refused hasked.1 hasked.2 (by simp only [ownSetNextClass, hp, nameComp_badArg h])
  · intro x
    refine ⟨fun hs => ?_, fun hs none => ?_, fun c hk hc => ?_⟩
    · exact takeRequest_refused hasked.1 hasked.2
        (by simp only [ownSetNextClass, hp, nameComp_free (s := s.taking .setNextClass r) hi hs])
    · exact takeRequest_refused hasked.1 hasked.2
        (by simp only [ownSetNextClass, hp, nameComp_of_names (s := s.taking .setNextClass r) hi hs, class1?_eq_none none])
    · have named (hs : x.state ≠ .free) := ownSetNextClass_named (s := s.taking .setNextClass r) hp hi hs hk hc
      have present (booked : x.state = .booked) : x.state ≠ .free := fun e => nomatch booked.symm.trans e
      have accepted (booked : x.state = .booked) (clear : s.cell x.lastClass c ≠ .barred) :=
        takeRequest_queueInAlone hasked
          ((named (present booked)).trans ((if_neg (not_not.2 booked)).trans (if_neg clear))) rfl
      refine ⟨fun hs other => ?_, fun booked barred => ?_, fun booked clear unparked => ?_, fun b booked clear parked => ?_⟩
      · exact takeRequest_refused hasked.1 hasked.2 ((named hs).trans (if_pos other))
      · exact takeRequest_refused hasked.1 hasked.2
          ((named (present booked)).trans ((if_neg (not_not.2 booked)).trans (if_pos barred)))
      · have code : byte x.state.code = 1 := by rw [booked]; rfl
        rw [← code]
        exact (accepted booked clear).1 unparked
      · exact (accepted booked clear).2 b parked
  · exact takeRequest_refused hasked.1 hasked.2 (by simp only [ownDispose, hp, nameComp_badArg h])
  · intro x
    have named (hs : x.state ≠ .free) := ownDispose_named (s := s.taking .dispose r) hp hi hs
    have present (held : x.state = .held) : x.state ≠ .free := fun e => nomatch held.symm.trans e
    have rewash (held : x.state = .held) (one : a = 1) :=
      takeRequest_queueInAlone hasked
        ((named (present held)).trans
          ((if_neg fun h => h.1 one).trans ((if_neg (not_not.2 held)).trans (if_pos one)))) rfl
    refine ⟨fun hs => ?_, fun hs one two => ?_, fun hs other action => ?_, fun held two => ?_, fun held one unparked => ?_,
      fun b held one parked => ?_⟩
    · exact takeRequest_refused hasked.1 hasked.2 (by simp only [ownDispose, hp, nameComp_free (s := s.taking .dispose r) hi hs])
    · exact takeRequest_refused hasked.1 hasked.2 ((named hs).trans (if_pos ⟨one, two⟩))
    · exact takeRequest_refused hasked.1 hasked.2
        ((named hs).trans ((if_neg fun h => action.elim h.1 h.2).trans (if_pos other)))
    · have ho := (named (present held)).trans
        ((if_neg fun h => h.2 two).trans ((if_neg (not_not.2 held)).trans (if_neg (by rw [two]; decide))))
      rw [recordState, State.comp_setComp_self] at ho
      refine (takeRequest_accepted hasked ho).trans ?_
      rw [← answering_taking]
      rfl
    · exact (rewash held one).1 unparked
    · exact (rewash held one).2 b parked

/-! ## WITHDRAW, DEPART and TAKE_DEPARTURE (R17, R19, R20) -/

theorem mayWithdraw_iff (x : Lifecycle) : mayWithdraw x = true ↔ x = .booked ∨ x = .inspectWait ∨ x = .cleared ∨ x = .held := by
  cases x <;> decide

theorem holdsDeparture_iff (x : Lifecycle) : holdsDeparture x = true ↔ x = .washing ∨ x = .inspecting ∨ x = .filling := by
  cases x <;> decide

/-- Records set to one value one after the other: nothing else changes. -/
theorem foldl_setComp (x : CompartmentRecord) (l : List Comp) (s : State) :
    (∃ comps, l.foldl (fun u k => u.setComp k x) s = { s with comps := comps })
      ∧ ∀ k, (l.foldl (fun u k => u.setComp k x) s).comp k = if k ∈ l then x else s.comp k := by
  induction l generalizing s with
  | nil => exact ⟨⟨s.comps, rfl⟩, fun k => by simp⟩
  | cons i l ih =>
    obtain ⟨⟨comps, e⟩, each⟩ := ih (s.setComp i x)
    refine ⟨⟨comps, e⟩, fun k => ?_⟩
    rw [List.foldl_cons, each k, State.comp_setComp]
    by_cases hl : k ∈ l
    · simp [hl]
    · by_cases hk : k = i <;> simp [hl, hk]

/-- DEPART of an entry that is there, its checks in order (R19). -/
theorem ownDepart_named {r : Request} {n : Byte} {i : Tanker} {t : TankerData} {s : State} (hp : r.payload = [n]) (hi : Names n i)
    (ht : s.tanker i = some t) :
    ownDepart r s
      = if t.bay ≠ none ∨ (∃ k ∈ t.compartments, (s.comp k).state = .washing ∨ (s.comp k).state = .inspecting
            ∨ (s.comp k).state = .filling) then refuse .wrongState s
        else if 32 < s.departures.length + t.compartments.length then refuse .queueFull s
        else accept [byte t.compartments.length] (departTanker i t s) := by
  have held : t.compartments.any (fun k => holdsDeparture (s.comp k).state) = true
      ↔ ∃ k ∈ t.compartments, (s.comp k).state = .washing ∨ (s.comp k).state = .inspecting ∨ (s.comp k).state = .filling := by
    simp only [List.any_eq_true, holdsDeparture_iff]
  have parked : t.bay.isSome = true ↔ t.bay ≠ none := Option.isSome_iff_ne_none
  simp only [ownDepart, hp, nameTanker_of_names hi ht, held, parked]
  by_cases h : t.bay ≠ none
  · rw [if_pos h, if_pos (.inl h)]
  · rw [if_neg h]
    simp only [h, false_or]
    rfl

/-- Settles O28: WITHDRAW on the record, DEPART through its fold over the compartments, TAKE_DEPARTURE on the queue's two cases. -/
theorem withdrawAndDepart : Obligations.WithdrawAndDepart := by
  refine ⟨fun r s n hasked hp => ⟨fun h => ?_, fun i hi => ?_⟩, fun r s n hasked hp => ⟨fun h => ?_, fun i hi => ⟨fun free => ?_, fun t ht => ?_⟩⟩,
    fun r s hasked hp => ⟨fun empty => ?_, fun d ds hd => ?_⟩⟩
  · exact takeRequest_refused hasked.1 hasked.2 (by simp only [ownWithdraw, hp, nameComp_badArg h])
  · intro x allowed
    have named (hs : x.state ≠ .free) : ownWithdraw r (s.taking .withdraw r)
        = if mayWithdraw x.state then
            accept [] ((s.taking .withdraw r).setComp i { x with state := .withdrawn, cert := none, hold := none, plan := none })
          else refuse .wrongState (s.taking .withdraw r) := by
      simp only [ownWithdraw, hp, nameComp_of_names (s := s.taking .withdraw r) hi hs]
      rfl
    refine ⟨fun hs => ?_, fun hs other => ?_, fun may => ?_⟩
    · exact takeRequest_refused hasked.1 hasked.2 (by simp only [ownWithdraw, hp, nameComp_free (s := s.taking .withdraw r) hi hs])
    · exact takeRequest_refused hasked.1 hasked.2 ((named hs).trans (if_neg (mt (mayWithdraw_iff _).1 other)))
    · have hs : x.state ≠ .free := fun e => nomatch (mayWithdraw_iff .free).2 (e ▸ may)
      refine (takeRequest_accepted hasked ((named hs).trans (if_pos ((mayWithdraw_iff _).2 may)))).trans ?_
      rw [← answering_taking]
      rfl
  · exact takeRequest_refused hasked.1 hasked.2 (by simp only [ownDepart, hp, nameTanker_badArg h])
  · exact takeRequest_refused hasked.1 hasked.2 (by simp only [ownDepart, hp, nameTanker_free (s := s.taking .depart r) hi free])
  · intro held record
    have named := ownDepart_named (s := s.taking .depart r) hp hi ht
    refine ⟨fun h => ?_, fun h full => ?_, fun h room => ?_⟩
    · exact takeRequest_refused hasked.1 hasked.2 (named.trans (if_pos h))
    · exact takeRequest_refused hasked.1 hasked.2 (named.trans ((if_neg h).trans (if_pos full)))
    · have own := named.trans ((if_neg h).trans (if_neg (Nat.not_lt.2 room)))
      obtain ⟨⟨comps, e⟩, each⟩ := foldl_setComp CompartmentRecord.freed t.compartments (s.taking .depart r)
      refine ⟨_, takeRequest_accepted hasked own, ?_, fun k hk => (each k).trans (if_pos hk), fun k hk => (each k).trans (if_neg hk)⟩
      simp only [departTanker, raiseDeparture, answering_raiseNotice, e]
      rw [← answering_taking]
      rfl
  · have none : (s.taking .takeDeparture r).departures = [] := empty
    exact takeRequest_read hasked.1 hasked.2 (by simp only [ownTakeDeparture, hp, none])
  · intro u
    have there : (s.taking .takeDeparture r).departures = d :: ds := hd
    have own : ownTakeDeparture r (s.taking .takeDeparture r)
        = accept (departureBytes d)
            (if ds.isEmpty then { s.taking .takeDeparture r with departures := ds }
             else raiseDeparture { s.taking .takeDeparture r with departures := ds }) := by
      simp only [ownTakeDeparture, hp, there]
    refine (takeRequest_accepted hasked own).trans ?_
    have answer : ({ s.taking .takeDeparture r with departures := ds }).answering .takeDeparture r ⟨.ok, departureBytes d⟩ = u := by
      show _ = { s.answered .takeDeparture r .ok (departureBytes d) with departures := ds }
      rw [← answering_taking]
      rfl
    cases ds with
    | nil => exact congrArg _ answer
    | cons d' ds =>
      refine congrArg _ ?_
      rw [if_neg (List.cons_ne_nil d' ds), ← answer]
      exact answering_raiseNotice ..

end Sys2Proof.Machine
end

section
/-! PARK (R59, R60): its checks in order, and its queue-ins with nothing between them. -/

namespace Sys2Proof.Machine

open Sys2Proof (Byte Comp Tanker Bay Chan RecipeSlot CargoClass Line Lane Port)

/-! ## The checks of PARK (R59) -/

theorem anyIn_iff (s : State) (t : TankerData) (x : Lifecycle) : anyIn s t x = true ↔ ∃ k ∈ t.compartments, (s.comp k).state = x := by
  simp [anyIn]

section Checks

variable {r : Request} {between : List (List Between)} {s : State} {b : Bay} {n : Byte}

theorem ownPark_bay (hr : r.port = bayPort b) (hp : r.payload = [n]) (hopen : s.yardOpen = true) :
    ownPark ⟨r, between⟩ s
      = nameTanker n s fun i t =>
          if t.bay.isSome then refuse .wrongState s
          else if anyIn s t .filling then refuse .wrongState s
          else if (s.bay b).parked.isSome then refuse .busy s
          else if !(s.bay b).twoHead && t.compartments.any (fun k => decide ((s.comp k).hatches = 2)) then refuse .unfit s
          else
            accept (byte t.compartments.length :: stateCodes (parkTanker b i t between s) t.compartments)
              (parkTanker b i t between s) := by
  simp only [ownPark, whenOpen_of_open hopen, hr, portRole_bayPort, hp]

/-- PARK of an entry that is there, its checks in order (R59). -/
theorem ownPark_named (hr : r.port = bayPort b) (hp : r.payload = [n]) (hopen : s.yardOpen = true) {i : Tanker} (hi : Names n i)
    {t : TankerData} (ht : s.tanker i = some t) :
    ownPark ⟨r, between⟩ s
      = if t.bay ≠ none ∨ ∃ k ∈ t.compartments, (s.comp k).state = .filling then refuse .wrongState s
        else if (s.bay b).parked ≠ none then refuse .busy s
        else if (s.bay b).twoHead = false ∧ ∃ k ∈ t.compartments, (s.comp k).hatches = 2 then refuse .unfit s
        else
          accept (byte t.compartments.length :: stateCodes (parkTanker b i t between s) t.compartments)
            (parkTanker b i t between s) := by
  have stands : t.bay.isSome = true ↔ t.bay ≠ none := Option.isSome_iff_ne_none
  have busy : (s.bay b).parked.isSome = true ↔ (s.bay b).parked ≠ none := Option.isSome_iff_ne_none
  have unfit : (!(s.bay b).twoHead && t.compartments.any fun k => decide ((s.comp k).hatches = 2)) = true
      ↔ (s.bay b).twoHead = false ∧ ∃ k ∈ t.compartments, (s.comp k).hatches = 2 := by
    simp
  simp only [ownPark_bay hr hp hopen, nameTanker_of_names hi ht, stands, anyIn_iff, busy, unfit]
  by_cases h : t.bay ≠ none
  · rw [if_pos h, if_pos (.inl h)]
  · simp only [h, if_false, false_or]

end Checks

/-! ## The queue-ins of a PARK with nothing between (R60) -/

/-- The slot that the matrix names for a record (R7). -/
def planIn (s : State) (k : Comp) : Option RecipeSlot :=
  match (s.comp k).nextClass with
  | none => none
  | some c =>
    match s.cell (s.comp k).lastClass c with
    | .slot p => some p
    | .none | .barred => none

/-- A record that a PARK adds to the queue of its bay (R7, R60). -/
def joinsQueue (s : State) (k : Comp) : Bool := decide ((s.comp k).state = .booked) && (planIn s k).isSome

/-- One record of a PARK with nothing between the readings. -/
def queueInBooked (b : Bay) (s : State) (k : Comp) : State := if (s.comp k).state = .booked then queueIn b k s else s

theorem queueInBooked_eq (b : Bay) (s : State) (k : Comp) :
    queueInBooked b s k = if (s.comp k).state = .booked ∧ (s.comp k).nextClass ≠ none then queueIn b k s else s := by
  unfold queueInBooked
  cases h : (s.comp k).nextClass with
  | none =>
    have none : queueIn b k s = s := by rw [queueIn, h]
    simp [none]
  | some c => simp

theorem queueInBooked_skip {b : Bay} {s : State} {k : Comp} (h : (s.comp k).state ≠ .booked ∨ (s.comp k).nextClass = none) :
    queueInBooked b s k = s := by
  rw [queueInBooked_eq, if_neg fun e => h.elim (absurd e.1) e.2]

/-- What the queue-ins of a list of records make of a state. -/
structure QueuedIn (b : Bay) (l : List Comp) (s t : State) : Prop where
  joined : ∀ (k : Comp) (p : RecipeSlot), k ∈ l → (s.comp k).state = .booked → planIn s k = some p →
    t.comp k = { s.comp k with state := .queued, plan := some { slot := p, roundsDone := 0 } }
  kept : ∀ k : Comp, k ∉ l ∨ (s.comp k).state ≠ .booked ∨ (s.comp k).nextClass = none → t.comp k = s.comp k
  queue : t.bay b = { s.bay b with queue := (s.bay b).queue ++ l.filter (joinsQueue s) }
  rest : t = { s with comps := t.comps, bays := put s.bays b (t.bay b), ports := t.ports, certCounter := t.certCounter }

namespace QueuedIn

variable {b : Bay} {s t u : State}

/-- No queue-in leaves what stood. -/
theorem of_skip {k : Comp} (h : (s.comp k).state ≠ .booked ∨ (s.comp k).nextClass = none) : QueuedIn b [k] s s where
  joined j p hj booked plan := by
    obtain rfl := List.mem_singleton.1 hj
    rcases h with h | h
    · exact absurd booked h
    · rw [planIn, h] at plan; exact nomatch plan
  kept _ _ := rfl
  queue := by
    have stays : joinsQueue s k = false := by
      rcases h with h | h
      · simp [joinsQueue, h]
      · simp [joinsQueue, planIn, h]
    simp [stays]
  rest := by
    have same : put s.bays b (s.bay b) = s.bays := put_eq_self _ _
    rw [same]

/-- A queue-in of a BOOKED record on its cell: of the records it touches that one alone. -/
theorem queueIn {k : Comp} {c : CargoClass} (booked : (s.comp k).state = .booked) (hc : (s.comp k).nextClass = some c) :
    QueuedIn b [k] s (Machine.queueIn b k s) := by
  have same : put s.bays b (s.bay b) = s.bays := put_eq_self _ _
  have plan : planIn s k = match s.cell (s.comp k).lastClass c with | .slot p => some p | .none | .barred => none := by
    rw [planIn, hc]
  have alone (x : CompartmentRecord) : ∀ j, j ∉ [k] ∨ (s.comp j).state ≠ .booked ∨ (s.comp j).nextClass = none →
      (s.setComp k x).comp j = s.comp j := fun j hj => by
    refine State.comp_setComp_ne _ _ fun e => ?_
    subst e
    rcases hj with h | h | h
    · exact h (List.mem_singleton.2 rfl)
    · exact h booked
    · exact nomatch hc.symm.trans h
  rw [queueIn_of_class hc]
  cases cell : s.cell (s.comp k).lastClass c with
  | slot p =>
    rw [cell] at plan
    refine ⟨fun j q hj _ hq => ?_, fun j hj => alone _ j hj, ?_, ?_⟩
    · obtain rfl := List.mem_singleton.1 hj
      obtain rfl := Option.some.inj (plan.symm.trans hq)
      exact State.comp_setComp_self ..
    · have joins : joinsQueue s k = true := by simp [joinsQueue, booked, plan]
      simp [queueInOn, joins]
    · simp only [queueInOn, State.modComp_eq, State.modBay_eq, State.bay_setBay_self]
      rfl
  | none =>
    rw [cell] at plan
    have joins : joinsQueue s k = false := by simp [joinsQueue, plan]
    rw [queueInOn]
    split
    · refine ⟨fun j q hj _ hq => ?_, fun j hj => alone _ j hj, by simp [joins], ?_⟩
      · obtain rfl := List.mem_singleton.1 hj
        exact nomatch plan.symm.trans hq
      · rw [State.modComp_eq, State.bay_setComp, same]
        rfl
    · refine ⟨fun j q hj _ hq => ?_, fun j hj => alone _ j hj, ?_, ?_⟩
      · obtain rfl := List.mem_singleton.1 hj
        exact nomatch plan.symm.trans hq
      · have bay : (issueCertificate k s).bay b = s.bay b := rfl
        simp [bay, joins]
      · have bay : (issueCertificate k s).bay b = s.bay b := rfl
        rw [bay, same]
        rfl
  | barred =>
    rw [cell] at plan
    have joins : joinsQueue s k = false := by simp [joinsQueue, plan]
    refine ⟨fun j q hj _ hq => ?_, fun j hj => alone _ j hj, by simp [queueInOn, joins], ?_⟩
    · obtain rfl := List.mem_singleton.1 hj
      exact nomatch plan.symm.trans hq
    · rw [queueInOn, State.modComp_eq, State.bay_setComp, same]
      rfl

theorem queueInBooked (s : State) (k : Comp) : QueuedIn b [k] s (Machine.queueInBooked b s k) := by
  by_cases h : (s.comp k).state = .booked
  · cases hc : (s.comp k).nextClass with
    | none =>
      rw [queueInBooked_skip (.inr hc)]
      exact of_skip (.inr hc)
    | some c =>
      rw [Machine.queueInBooked, if_pos h]
      exact queueIn h hc
  · rw [queueInBooked_skip (.inl h)]
    exact of_skip (.inl h)

/-- Records apart do not see each other's queue-ins. -/
theorem cons {k : Comp} {l : List Comp} (hk : k ∉ l) (h : QueuedIn b [k] s t) (h' : QueuedIn b l t u) : QueuedIn b (k :: l) s u := by
  have apart : ∀ j, j ≠ k → t.comp j = s.comp j := fun j hj => h.kept j (.inl (mt List.mem_singleton.1 hj))
  have cells : ∀ a c, t.cell a c = s.cell a c := fun a c => by rw [h.rest]; rfl
  have plans : ∀ j, j ≠ k → planIn t j = planIn s j := fun j hj => by simp only [planIn, apart j hj, cells]
  have inList : ∀ j ∈ l, j ≠ k := fun j hj e => hk (e ▸ hj)
  refine ⟨fun j p hj booked plan => ?_, fun j hj => ?_, ?_, ?_⟩
  · rcases List.mem_cons.1 hj with rfl | hj
    · rw [h'.kept j (.inl hk)]
      exact h.joined j p (List.mem_singleton.2 rfl) booked plan
    · have ne := inList j hj
      rw [← apart j ne] at booked
      rw [h'.joined j p hj booked ((plans j ne).trans plan), apart j ne]
  · by_cases e : j = k
    · subst e
      rw [h'.kept j (.inl hk)]
      exact h.kept j (hj.imp (fun out => absurd List.mem_cons_self out) id)
    · rw [h'.kept j ?_, apart j e]
      rw [apart j e]
      exact hj.imp (fun out inL => out (List.mem_cons_of_mem _ inL)) id
  · have rest : l.filter (joinsQueue t) = l.filter (joinsQueue s) :=
      List.filter_congr fun j hj => by simp only [joinsQueue, apart j (inList j hj), plans j (inList j hj)]
    have both : (k :: l).filter (joinsQueue s) = [k].filter (joinsQueue s) ++ l.filter (joinsQueue s) :=
      List.filter_append (p := joinsQueue s) [k] l
    rw [h'.queue, h.queue, rest, both]
    simp only [List.append_assoc]
  · have first := h.rest
    have second := h'.rest
    generalize t.bay b = x at first
    rw [first] at second
    simpa using second

/-- The queue-ins of a tanker whose list names no record twice. -/
theorem foldl {l : List Comp} (hl : l.Nodup) (s : State) : QueuedIn b l s (l.foldl (Machine.queueInBooked b) s) := by
  induction l generalizing s with
  | nil =>
    refine ⟨nofun, fun _ _ => rfl, by simp, ?_⟩
    have same : put s.bays b (s.bay b) = s.bays := put_eq_self _ _
    rw [List.foldl_nil, same]
  | cons k l ih =>
    obtain ⟨hk, hl⟩ := List.nodup_cons.1 hl
    exact cons hk (queueInBooked s k) (ih hl _)

/-- The attempt that a PARK causes after its queue-ins (R60, R66). -/
theorem owed {l : List Comp} (h : QueuedIn b l s t) :
    oweAttempt b t
      = { s with
          comps := t.comps, bays := put s.bays b ((oweAttempt b t).bay b), ports := t.ports, certCounter := t.certCounter } := by
  rw [oweAttempt, State.modBay_eq, State.bay_setBay_self]
  generalize ({ t.bay b with owed := (t.bay b).owed + 1 } : BayState) = x
  conv_lhs => rw [h.rest]
  simp only [State.setBay, put_put_self]

end QueuedIn

end Sys2Proof.Machine
end

section
/-! PARK with what comes between its readings, and BOOK, whose port is held meanwhile (R34, R59, R60, R178; log 31). -/

namespace Sys2Proof.Machine

open Sys2Proof (Byte Comp Tanker Bay Chan RecipeSlot CargoClass Line Lane Port)

/-! ## Writes while the Office port holds its request (R34, R178) -/

/-- The Office port holds a request as taken and sends no answer; its receiver is SEEKING. -/
structure OfficeHeld (u : State) : Prop where
  held : ∃ h, (u.port officePort).held = some h ∧ h.taken = true
  silent : (u.port officePort).answer = none
  seeking : (u.port officePort).seek = u.port officePort

/-- A state apart from another in its ports alone, and at the Office port in the overruns alone. -/
structure Overran (u v : State) : Prop where
  rest : v = { u with ports := v.ports }
  office : v.port officePort = { u.port officePort with overrunCount := (v.port officePort).overrunCount }

namespace Overran

variable {u v : State}

theorem refl (u : State) : Overran u u := ⟨rfl, rfl⟩

theorem setPort_ne (h : Overran u v) {p : Port} (hp : p ≠ officePort) (x : StationPort) : Overran u (v.setPort p x) := by
  have same : (v.setPort p x).port officePort = v.port officePort := State.port_setPort_ne _ _ (Ne.symm hp)
  refine ⟨?_, ?_⟩
  · rw [h.rest]
    rfl
  · rw [same]
    exact h.office

theorem overrun (h : Overran u v) (hu : OfficeHeld u) : Overran u (v.modPort officePort StationPort.overrun) := by
  refine ⟨?_, ?_⟩
  · rw [h.rest]
    rfl
  · have seek := hu.seeking
    rw [State.modPort_eq, State.port_setPort_self, StationPort.overrun, h.office]
    simp only [StationPort.seek] at seek ⊢
    rw [← seek]

/-- A write that comes to the Office port is an overrun there, and one that comes to another port is refused. -/
theorem write (h : Overran u v) (hu : OfficeHeld u) {k : RequestKind} (hk : ∀ p, k.permitted p = true → p = officePort)
    (r : Request) (owner : State → Taken) : Overran u (serveRequest k r owner v) := by
  unfold serveRequest serve
  by_cases hr : r.port = officePort
  · obtain ⟨x, held, taken⟩ := hu.held
    have there : (v.port r.port).held = some x := by rw [hr, h.office]; exact held
    have busy : ¬mayTake (byte k.code) r v = true := fun e => by
      have free := ((mayTake_of_held there).1 e).1
      rw [taken] at free
      exact nomatch free
    rw [if_neg busy, hr]
    exact h.overrun hu
  · have refused : ¬k.permitted r.port = true := mt (hk _) hr
    by_cases may : mayTake (byte k.code) r v = true
    · rw [if_pos may]
      dsimp only
      rw [if_neg refused]
      exact (h.setPort_ne hr _).setPort_ne hr _
    · rw [if_neg may]
      exact h.setPort_ne hr _

theorem takeBetween (h : Overran u v) (hu : OfficeHeld u) (e : Between) : Overran u (Machine.takeBetween v e) := by
  have office {x : PortRole} : Access.admits .office x = true → x = .office := by cases x <;> simp [Access.admits]
  cases e with
  | writeMatrixRow r => exact h.write hu (k := .writeMatrixRow) (fun p hp => officePort_of_role (office hp)) r _
  | writeLimits r => exact h.write hu (k := .writeLimits) (fun p hp => officePort_of_role (office hp)) r _
  | answerSent p =>
    by_cases hp : p = officePort
    · subst hp
      have silent : (v.port officePort).answer = none := by rw [h.office]; exact hu.silent
      have same : v.modPort officePort StationPort.sent = v := by
        rw [State.modPort_eq, StationPort.sent, silent, Option.isSome_none, if_neg Bool.false_ne_true, State.setPort, State.port,
          put_eq_self]
      exact Eq.mpr (congrArg (Overran u) same) h
    · exact h.setPort_ne hp _

theorem next {x : Amid} (h : Overran u x.1) (hu : OfficeHeld u) : Overran u x.next.1 := by
  show Overran u ((x.2.headD []).foldl Machine.takeBetween x.1)
  generalize x.2.headD [] = es
  revert h
  generalize x.1 = v
  induction es generalizing v with
  | nil => exact id
  | cons e es ih => exact fun h => ih _ (h.takeBetween hu e)

theorem cell (h : Overran u v) (a c : CargoClass) : v.cell a c = u.cell a c := by
  rw [h.rest]
  rfl

/-- The readings of a BOOK find the cells that they would have found at once. -/
theorem readBarred (hu : OfficeHeld u) (ds : List Description) {x : Amid} (h : Overran u x.1) :
    (Machine.readBarred ds x).1 = (Machine.readBarred ds (u, [])).1 ∧ Overran u (Machine.readBarred ds x).2 := by
  induction ds generalizing x with
  | nil => exact ⟨rfl, h⟩
  | cons d ds ih =>
    unfold Machine.readBarred
    cases hd : d.nextClass with
    | none => exact ih h
    | some c =>
      dsimp only
      rw [Amid.next_nil, (h.next hu).cell]
      by_cases barred : u.cell d.lastClass c = .barred
      · rw [if_pos barred, if_pos barred]
        exact ⟨rfl, h.next hu⟩
      · rw [if_neg barred, if_neg barred]
        exact ih (h.next hu)

theorem setComp (h : Overran u v) (i : Comp) (x : CompartmentRecord) : Overran (u.setComp i x) (v.setComp i x) :=
  ⟨congrArg (State.setComp · i x) h.rest, h.office⟩

theorem setTanker (h : Overran u v) (i : Tanker) (x : TankerEntry) : Overran (u.setTanker i x) (v.setTanker i x) :=
  ⟨congrArg (State.setTanker · i x) h.rest, h.office⟩

theorem answering (h : Overran u v) {r : Request} (hr : r.port = officePort) (k : RequestKind) (x : Reply) :
    Overran (u.answering k r x) (v.answering k r x) := by
  refine ⟨congrArg (State.answering · k r x) h.rest, ?_⟩
  simp only [State.answering, hr, State.port_setPort_self]
  rw [h.office]

theorem bookRecords (slot : Tanker) (k : Nat) (is : List Comp) (ds : List Description) (h : Overran u v) :
    Overran (Machine.bookRecords slot k is ds u) (Machine.bookRecords slot k is ds v) := by
  induction is generalizing k ds u v with
  | nil => exact h
  | cons i is ih =>
    cases ds with
    | nil => exact h
    | cons d ds => exact ih (k + 1) ds (h.setComp i _)

theorem bookTanker (fleet : Nat) (ds : List Description) (h : Overran u v) :
    (Machine.bookTanker fleet ds v).2 = (Machine.bookTanker fleet ds u).2
      ∧ Overran (Machine.bookTanker fleet ds u).1 (Machine.bookTanker fleet ds v).1 := by
  have tankers : freeTankers v = freeTankers u := by rw [h.rest]; rfl
  have comps : freeComps v = freeComps u := by rw [h.rest]; rfl
  have minute : v.clock.minute = u.clock.minute := by rw [h.rest]
  unfold Machine.bookTanker
  rw [tankers, comps, minute]
  cases freeTankers u with
  | nil => exact ⟨rfl, h⟩
  | cons slot rest =>
    dsimp only
    by_cases full : (freeComps u).length < ds.length
    · rw [if_pos full, if_pos full]
      exact ⟨rfl, h⟩
    · rw [if_neg full, if_neg full]
      have records := bookRecords slot 1 ((freeComps u).take ds.length) ds h
      exact ⟨rfl, records.setTanker slot _⟩

theorem ownBook (hu : OfficeHeld u) (r : Request) (between : List (List Between)) :
    (Machine.ownBook ⟨r, between⟩ u).2 = (Machine.ownBook ⟨r, []⟩ u).2
      ∧ Overran (Machine.ownBook ⟨r, []⟩ u).1 (Machine.ownBook ⟨r, between⟩ u).1 := by
  cases hopen : u.yardOpen with
  | false =>
    rw [ownBook_notOpen _ hopen, ownBook_notOpen _ hopen]
    exact ⟨rfl, refl u⟩
  | true =>
    simp only [Machine.ownBook, whenOpen_of_open hopen]
    cases bookArgs? r.payload with
    | none => exact ⟨rfl, refl u⟩
    | some args =>
      obtain ⟨fleet, ds⟩ := args
      dsimp only
      by_cases inUse : fleetInUse u fleet = true
      · rw [if_pos inUse, if_pos inUse]
        exact ⟨rfl, refl u⟩
      · rw [if_neg inUse, if_neg inUse]
        obtain ⟨found, later⟩ := readBarred hu ds (x := (u, between)) (refl u)
        have state : (Machine.readBarred ds (u, [])).2 = u := readBarred_nil_state ds u
        rw [found, state]
        by_cases barred : (Machine.readBarred ds (u, [])).1 = true
        · rw [if_pos barred, if_pos barred]
          exact ⟨rfl, later⟩
        · rw [if_neg barred, if_neg barred]
          exact bookTanker fleet ds later

end Overran

theorem office_of_book {r : Request} {s : State} (h : Asked s .book r) : r.port = officePort := by
  have role : Access.admits .office (portRole r.port) = true := h.2
  refine officePort_of_role ?_
  cases hr : portRole r.port with
  | office => rfl
  | bay b => rw [hr] at role; exact nomatch role
  | fill => rw [hr] at role; exact nomatch role

theorem OfficeHeld.of_taking {s : State} {r : Request} (hr : r.port = officePort) (ha : (s.port officePort).answer = none)
    (k : RequestKind) : OfficeHeld (s.taking k r) := by
  have port : (s.taking k r).port officePort
      = { s.port officePort with
          receiver := .seeking, buffer := [], gapRunning := false, held := some ⟨byte k.code, r.tag, r.payload, true⟩ } := by
    rw [State.taking, hr, State.port_setPort_self]
  refine ⟨⟨_, by rw [port], rfl⟩, by rw [port]; exact ha, by rw [port]; rfl⟩

/-- Settles O29: the checks of `ownPark_named`, the queue-ins record by record, and the overruns of what comes while BOOK is served. -/
theorem park : Obligations.Park := by
  have accepted {r : Request} {between : List (List Between)} {s : State} {b : Bay} {n : Byte} {i : Tanker} {t : TankerData}
      (hasked : Asked s .park r) (hr : r.port = bayPort b) (hp : r.payload = [n]) (hopen : s.yardOpen = true) (hi : Names n i)
      (ht : s.tanker i = some t) (free : t.bay = none) (idle : ∀ k ∈ t.compartments, (s.comp k).state ≠ .filling)
      (unparked : (s.bay b).parked = none) (fits : (s.bay b).twoHead = true ∨ ∀ k ∈ t.compartments, (s.comp k).hatches ≠ 2) :
      exec (.park ⟨r, between⟩) s
        = .next ((parkTanker b i t between (s.taking .park r)).answering .park r
            ⟨.ok, byte t.compartments.length :: stateCodes (parkTanker b i t between (s.taking .park r)) t.compartments⟩) := by
    refine takeRequest_accepted hasked ((ownPark_named (s := s.taking .park r) hr hp hopen hi ht).trans ?_)
    have free' : ¬((s.taking .park r).bay b).parked ≠ none := not_not.2 unparked
    rw [if_neg, if_neg free', if_neg]
    · rintro ⟨one, k, hk, two⟩
      rcases fits with fits | fits
      · exact nomatch fits.symm.trans one
      · exact fits k hk two
    · rintro (stands | ⟨k, hk, filling⟩)
      · exact stands free
      · exact idle k hk filling
  refine ⟨fun r between s b n hasked hr hp => ⟨fun closed => ?_, fun hopen none => ?_, fun i hopen hi => ⟨fun free => ?_, fun t ht => ?_⟩⟩,
    fun r s b n i t hasked hr hp hopen hi ht free idle unparked fits => ?_,
    fun r s b n i t hasked hr hp hopen hi ht free nodup idle unparked fits => ?_,
    ⟨fun e s running => exec_betweenCommand running e, fun b i l gaps s => ⟨rfl, fun skip => ?_, fun c booked hc => ?_⟩⟩,
    fun r between s b n i t hasked hr hp hopen hi ht free idle unparked fits => ?_, fun r between s hasked silent => ?_⟩
  · exact takeRequest_refused hasked.1 hasked.2 (whenOpen_of_closed (s := s.taking .park r) closed _)
  · exact takeRequest_refused hasked.1 hasked.2
      ((ownPark_bay (s := s.taking .park r) hr hp hopen).trans (nameTanker_badArg none _ _))
  · exact takeRequest_refused hasked.1 hasked.2
      ((ownPark_bay (s := s.taking .park r) hr hp hopen).trans (nameTanker_free (s := s.taking .park r) hi free _))
  · intro stands twoHatch
    have named := ownPark_named (between := between) (s := s.taking .park r) hr hp hopen hi ht
    refine ⟨fun h => ?_, fun h busy => ?_, fun h unparked one two => ?_⟩
    · exact takeRequest_refused hasked.1 hasked.2 (named.trans (if_pos h))
    · exact takeRequest_refused hasked.1 hasked.2 (named.trans ((if_neg h).trans (if_pos busy)))
    · exact takeRequest_refused hasked.1 hasked.2
        (named.trans ((if_neg h).trans ((if_neg (not_not.2 unparked)).trans (if_pos ⟨one, two⟩))))
  · intro parked u
    have fold : queueInAll b t.compartments [] parked = u := by
      rw [queueInAll_nil]
      exact congrArg (fun f => t.compartments.foldl f parked) (funext fun v => funext fun k => queueInBooked_eq b v k)
    rw [← fold]
    exact accepted hasked hr hp hopen hi ht free idle unparked fits
  · intro planOf joins
    have into := QueuedIn.foldl (b := b) nodup
      (((s.taking .park r).setTanker i (some { t with bay := some b })).setBay b { s.bay b with parked := some i })
    have fold : queueInAll b t.compartments []
          (((s.taking .park r).setTanker i (some { t with bay := some b })).setBay b { s.bay b with parked := some i })
        = t.compartments.foldl (queueInBooked b)
          (((s.taking .park r).setTanker i (some { t with bay := some b })).setBay b { s.bay b with parked := some i }) :=
      queueInAll_nil ..
    refine ⟨_, accepted hasked hr hp hopen hi ht free idle unparked fits, ?_⟩
    have park : parkTanker b i t [] (s.taking .park r)
        = oweAttempt b (t.compartments.foldl (queueInBooked b)
            (((s.taking .park r).setTanker i (some { t with bay := some b })).setBay b { s.bay b with parked := some i })) :=
      congrArg (oweAttempt b) fold
    rw [park]
    generalize t.compartments.foldl (queueInBooked b)
      (((s.taking .park r).setTanker i (some { t with bay := some b })).setBay b { s.bay b with parked := some i }) = v at into
    have owed := into.owed
    obtain ⟨joined, kept, queue, -⟩ := into
    have bay : (oweAttempt b v).bay b
        = { s.bay b with
            parked := some i, queue := (s.bay b).queue ++ t.compartments.filter joins, owed := (s.bay b).owed + 1 } := by
      rw [oweAttempt, State.modBay_eq, State.bay_setBay_self, queue, State.bay_setBay_self]
      rfl
    have tankers : (oweAttempt b v).tankers = put s.tankers i (some { t with bay := some b }) := by
      rw [owed]
      rfl
    refine ⟨bay, tankers, joined, kept, ?_⟩
    have whole : oweAttempt b v
        = { s.taking .park r with
            comps := v.comps, tankers := (oweAttempt b v).tankers, bays := put s.bays b ((oweAttempt b v).bay b)
            ports := v.ports, certCounter := v.certCounter } := by
      rw [tankers]
      refine owed.trans ?_
      generalize (oweAttempt b v).bay b = x
      simp only [State.setBay, put_put_self]
      rfl
    generalize (⟨.ok, byte t.compartments.length :: stateCodes (oweAttempt b v) t.compartments⟩ : Reply) = x
    exact congrArg (State.answering · .park r x) whole
  · rw [queueInAll_cons, queueInNext_skip b (x := (s, gaps)) skip]
  · intro atCell atEntry cell
    refine ⟨fun h => ?_, fun h => ?_⟩
    · rw [queueInAll_cons, queueInNext_cell b (x := (s, gaps)) booked hc h]
      rfl
    · rw [queueInAll_cons, queueInNext_entry b (x := (s, gaps)) booked hc h]
      show queueInAll b l ((gaps.drop 1).drop 1) _ = _
      rw [List.drop_drop]
      rfl
  · exact accepted hasked hr hp hopen hi ht free idle unparked fits
  · have office := office_of_book hasked
    obtain ⟨answer, apart⟩ := Overran.ownBook (OfficeHeld.of_taking office silent .book) r between
    have both := apart.answering office .book (ownBook ⟨r, []⟩ (s.taking .book r)).2
    have served : exec (.book ⟨r, between⟩) s
        = .next ((ownBook ⟨r, between⟩ (s.taking .book r)).1.answering .book r (ownBook ⟨r, []⟩ (s.taking .book r)).2) := by
      rw [← answer]
      exact takeRequest_permitted hasked.1 hasked.2 _
    exact ⟨_, _, takeRequest_permitted hasked.1 hasked.2 _, served, both.rest, both.office⟩

end Sys2Proof.Machine
end

section
/-! UNPARK, EXPEDITE and the dispatcher (R61, R62, R65 to R69), and bindings given back (R70, R71). -/

namespace Sys2Proof.Machine

open Sys2Proof (Byte Comp Tanker Bay Chan RecipeSlot CargoClass Line Lane Port)

/-! ## The heads of a bay (R57) -/

theorem bayOf_eq_iff (b : Bay) (c : Chan) : bayOf c = b ↔ c = headA b ∨ c = headB b := by
  revert b c; decide

@[simp] theorem bayOf_headA (b : Bay) : bayOf (headA b) = b := (bayOf_eq_iff b _).2 (.inl rfl)

@[simp] theorem bayOf_headB (b : Bay) : bayOf (headB b) = b := (bayOf_eq_iff b _).2 (.inr rfl)

theorem headA_ne_headB (b : Bay) : headA b ≠ headB b := by
  revert b; decide

theorem portRole_officePort : portRole officePort = .office := rfl

/-! ## UNPARK (R61, R62) -/

theorem holdsUnpark_iff (s : State) (c : Chan) :
    holdsUnpark s c = true
      ↔ (s.chan c).state = .bound ∨ (s.chan c).state = .claiming ∨ (s.chan c).state = .running ∨ (s.chan c).state = .paused
        ∨ (s.chan c).state = .stopping := by
  unfold holdsUnpark
  cases (s.chan c).state <;> simp

/-- What an UNPARK makes of a record (R18, R62). -/
def unqueued (x : CompartmentRecord) : CompartmentRecord :=
  if x.state = .queued then { x with state := .booked, plan := none, expedite := false } else x

theorem unqueued_unqueued (x : CompartmentRecord) : unqueued (unqueued x) = unqueued x := by
  by_cases h : x.state = .queued <;> simp [unqueued, h]

theorem unqueueRecord_eq (s : State) (i : Comp) : unqueueRecord s i = s.setComp i (unqueued (s.comp i)) := by
  unfold unqueueRecord unqueued
  split
  · rfl
  · rw [State.setComp, State.comp, put_eq_self]

theorem foldl_unqueueRecord (l : List Comp) (s : State) :
    (∃ comps, l.foldl unqueueRecord s = { s with comps := comps })
      ∧ ∀ k, (l.foldl unqueueRecord s).comp k = if k ∈ l then unqueued (s.comp k) else s.comp k := by
  induction l generalizing s with
  | nil => exact ⟨⟨s.comps, rfl⟩, fun k => by simp⟩
  | cons i l ih =>
    obtain ⟨⟨comps, e⟩, each⟩ := ih (s.setComp i (unqueued (s.comp i)))
    rw [List.foldl_cons, unqueueRecord_eq]
    refine ⟨⟨comps, e⟩, fun k => ?_⟩
    rw [each k, State.comp_setComp]
    by_cases hk : k = i
    · subst hk
      by_cases hl : k ∈ l <;> simp [hl, unqueued_unqueued]
    · by_cases hl : k ∈ l <;> simp [hl, hk]

section Unpark

variable {r : Request} {n : Byte} {s : State} {i : Tanker} {t : TankerData}

/-- UNPARK of a tanker in a bay, asked for by the Office port or by the bay's own (R61). -/
theorem ownUnpark_parked (hp : r.payload = [n]) (hi : Names n i) (ht : s.tanker i = some t) {b : Bay} (hb : t.bay = some b)
    (hr : r.port = officePort ∨ r.port = bayPort b) :
    ownUnpark r s
      = if (∃ c : Chan, bayOf c = b ∧ ((s.chan c).state = .bound ∨ (s.chan c).state = .claiming
              ∨ (s.chan c).state = .running ∨ (s.chan c).state = .paused ∨ (s.chan c).state = .stopping))
            ∨ ∃ k ∈ t.compartments, (s.comp k).state = .inspecting then refuse .busy s
        else
          accept [byte (t.compartments.countP fun k => decide ((s.comp k).state = .queued))] (unparkTanker b i t s) := by
  have heads : (holdsUnpark s (headA b) || holdsUnpark s (headB b)) = true
      ↔ ∃ c : Chan, bayOf c = b ∧ ((s.chan c).state = .bound ∨ (s.chan c).state = .claiming
          ∨ (s.chan c).state = .running ∨ (s.chan c).state = .paused ∨ (s.chan c).state = .stopping) := by
    simp only [Bool.or_eq_true, holdsUnpark_iff, bayOf_eq_iff, or_and_right, exists_or, exists_eq_left]
  have own : ¬(portRole r.port ≠ .office ∧ portRole r.port ≠ .bay b) := fun h => by
    rcases hr with hr | hr
    · exact h.1 (hr ▸ portRole_officePort)
    · exact h.2 (hr ▸ portRole_bayPort b)
  have split : ownUnpark r s
      = if portRole r.port ≠ .office ∧ portRole r.port ≠ .bay b then refuse .notPermitted s
        else if (holdsUnpark s (headA b) || holdsUnpark s (headB b)) = true then refuse .busy s
        else if anyIn s t .inspecting = true then refuse .busy s
        else accept [byte (t.compartments.countP fun k => decide ((s.comp k).state = .queued))] (unparkTanker b i t s) := by
    rcases hr with hr | hr
    · simp only [ownUnpark, hp, nameTanker_of_names hi ht, hr, portRole_officePort, hb]
    · simp only [ownUnpark, hp, nameTanker_of_names hi ht, hr, portRole_bayPort, hb]
  rw [split, if_neg own]
  simp only [heads, anyIn_iff]
  split
  · next h => rw [if_pos (.inl h)]
  · next h => simp only [h, false_or]

end Unpark

theorem oweAttempt_modBay (b : Bay) (f : BayState → BayState) (s : State) :
    oweAttempt b (s.modBay b f) = s.setBay b { f (s.bay b) with owed := (f (s.bay b)).owed + 1 } := by
  simp only [oweAttempt, State.modBay_eq, State.bay_setBay_self]
  simp only [State.setBay, put_put_self]

/-- Settles O30: UNPARK through its fold over the compartments, EXPEDITE on the record and the queue. -/
theorem unparkAndExpedite : Obligations.UnparkAndExpedite := by
  refine ⟨fun r s n hasked hp => ⟨fun h => ?_, fun i hi => ⟨fun free => ?_, fun t ht => ⟨fun b hr hb => ?_, fun hr hb => ?_, fun b hb hr => ?_⟩⟩⟩,
    fun r s n hasked hp => ⟨fun h => ?_, fun i hi => ⟨fun free => ?_, fun there other => ?_, fun b queued parked => ?_⟩⟩⟩
  · exact takeRequest_refused hasked.1 hasked.2 (by simp only [ownUnpark, hp, nameTanker_badArg h])
  · exact takeRequest_refused hasked.1 hasked.2 (by simp only [ownUnpark, hp, nameTanker_free (s := s.taking .unpark r) hi free])
  · refine takeRequest_refused hasked.1 hasked.2 ?_
    simp only [ownUnpark, hp, nameTanker_of_names (s := s.taking .unpark r) hi ht, hr, portRole_bayPort]
    cases hbay : t.bay with
    | none => rfl
    | some b' =>
      have foreign : PortRole.bay b ≠ .office ∧ PortRole.bay b ≠ .bay b' :=
        ⟨nofun, fun e => hb (by rw [hbay, PortRole.bay.inj e])⟩
      exact if_pos foreign
  · exact takeRequest_refused hasked.1 hasked.2
      (by simp only [ownUnpark, hp, nameTanker_of_names (s := s.taking .unpark r) hi ht, hr, portRole_officePort, hb])
  · intro busy
    have named := ownUnpark_parked (s := s.taking .unpark r) hp hi ht hb hr
    refine ⟨fun h => takeRequest_refused hasked.1 hasked.2 (named.trans (if_pos h)), fun h => ?_⟩
    obtain ⟨⟨comps, e⟩, each⟩ := foldl_unqueueRecord t.compartments (s.taking .unpark r)
    refine ⟨_, takeRequest_accepted hasked (named.trans (if_neg h)), ?_, fun k => (each k).trans ?_⟩
    · simp only [unparkTanker, e]
      rw [← answering_taking]
      rfl
    · by_cases hk : k ∈ t.compartments <;> by_cases hq : (s.comp k).state = .queued <;> simp [hk, hq, unqueued, State.taking]
  · exact takeRequest_refused hasked.1 hasked.2 (by simp only [ownExpedite, hp, nameComp_badArg h])
  · exact takeRequest_refused hasked.1 hasked.2 (by simp only [ownExpedite, hp, nameComp_free (s := s.taking .expedite r) hi free])
  · refine takeRequest_refused hasked.1 hasked.2 ?_
    simp only [ownExpedite, hp, nameComp_of_names (s := s.taking .expedite r) hi there]
    exact if_pos other
  · have there : (s.comp i).state ≠ .free := fun e => nomatch queued.symm.trans e
    have bay : parkedBay i (s.taking .expedite r) = some b := parked
    have own : ownExpedite r (s.taking .expedite r)
        = accept [] (oweAttempt b (((s.taking .expedite r).setComp i { s.comp i with expedite := true }).modBay b
            fun y => { y with queue := i :: y.queue.filter fun k => decide (k ≠ i) })) := by
      simp only [ownExpedite, hp, nameComp_of_names (s := s.taking .expedite r) hi there, bay]
      exact if_neg (not_not.2 queued)
    rw [oweAttempt_modBay] at own
    refine (takeRequest_accepted hasked own).trans ?_
    rw [← answering_taking]
    rfl

/-! ## Dispatch attempts (R66 to R68) -/

theorem bindFront_bay (b : Bay) (i : Comp) (x : Placement) (s : State) :
    (bindFront b i x s).bay b = { s.bay b with queue := (s.bay b).queue.drop 1 } := by
  cases x <;> exact State.bay_setBay_self ..

theorem dispatch_unparked {b : Bay} {s : State} (h : (s.bay b).parked = none ∨ (s.bay b).queue = []) : dispatch b s = (s, 0) := by
  unfold dispatch
  rcases h with h | h
  · rw [h]
    rfl
  · rw [h]
    split <;> rfl

/-- An attempt ends at a front that cannot be bound, and goes on with the new front after one that is. -/
theorem dispatch_front {b : Bay} {s : State} {i : Comp} {rest : List Comp} (parked : (s.bay b).parked ≠ none)
    (queue : (s.bay b).queue = i :: rest) :
    (placement s b i = none → dispatch b s = (s, 0))
      ∧ ∀ x, placement s b i = some x →
          dispatch b s = ((dispatch b (bindFront b i x s)).1, (dispatch b (bindFront b i x s)).2 + x.channels) := by
  have here : ¬(s.bay b).parked.isNone = true := by rw [Option.isNone_iff_eq_none]; exact parked
  have next (x : Placement) : dispatch b (bindFront b i x s) = bindFronts rest.length b (bindFront b i x s) := by
    have bay := bindFront_bay b i x s
    rw [queue] at bay
    rw [dispatch, bay, if_neg here]
    rfl
  refine ⟨fun h => ?_, fun x h => ?_⟩
  · rw [dispatch, if_neg here, queue]
    simp only [List.length_cons, bindFronts, queue, h]
  · rw [next, dispatch, if_neg here, queue]
    simp only [List.length_cons, bindFronts, queue, h]

theorem isIdle_iff (s : State) (c : Chan) : isIdle s c = true ↔ (s.chan c).state = .idle := decide_eq_true_iff

theorem placement_single {s : State} {b : Bay} {i : Comp} (queued : (s.comp i).state = .queued) (one : (s.comp i).hatches = 1) :
    placement s b i
      = if (s.chan (headA b)).state = .idle then some (.head (headA b))
        else if (s.chan (headB b)).state = .idle then some (.head (headB b))
        else none := by
  simp only [placement, queued, one, isIdle_iff]
  rfl

theorem placement_pair {s : State} {b : Bay} {i : Comp} (queued : (s.comp i).state = .queued) (two : (s.comp i).hatches = 2) :
    placement s b i
      = if (s.chan (headA b)).state = .idle ∧ (s.chan (headB b)).state = .idle then some .pair else none := by
  simp only [placement, queued, two, Bool.and_eq_true, isIdle_iff]
  rfl

/-- Settles O31: each line of the table is a placement of the front, and the requests make an attempt in the bay they name. -/
theorem dispatchAttempts : Obligations.Dispatch := by
  refine ⟨fun b s => ?_, fun r s b hasked named => ?_, fun r s n hasked hr hp outside => ?_, fun r s hasked bad => ?_,
    fun b s running => ⟨fun none => ?_, fun k owed => ?_⟩⟩
  · intro idle bound
    refine ⟨fun h => dispatch_unparked h, fun i rest parked queue queued hatches => ?_⟩
    intro left washing
    obtain ⟨stop, go⟩ := dispatch_front parked queue
    have dropped : (s.bay b).queue.drop 1 = rest := by rw [queue]; rfl
    have front (x : Placement) {t : State} (hp : placement s b i = some x) (ht : bindFront b i x s = t) :
        dispatch b s = ((dispatch b t).1, (dispatch b t).2 + x.channels) := ht ▸ go x hp
    refine ⟨fun one a => ?_, fun one a c => ?_, fun two a c => ?_, fun one a c => ?_, fun two h => ?_⟩
    · refine front (.head (headA b)) ((placement_single queued one).trans (if_pos a)) ?_
      simp only [bindFront, bindChannel, raiseChannelBound, bayOf_headA, State.modBay_eq, dropped]
      rfl
    · refine front (.head (headB b)) ((placement_single queued one).trans ((if_neg a).trans (if_pos c))) ?_
      simp only [bindFront, bindChannel, raiseChannelBound, bayOf_headB, State.modBay_eq, dropped]
      rfl
    · refine front .pair ((placement_pair queued two).trans (if_pos ⟨a, c⟩)) ?_
      simp only [bindFront, bindChannel, raiseChannelBound, bayOf_headA, bayOf_headB, State.modBay_eq, dropped]
      rfl
    · exact stop ((placement_single queued one).trans ((if_neg a).trans (if_neg c)))
    · exact stop ((placement_pair queued two).trans (if_neg fun e => h.elim (absurd e.1) (absurd e.2)))
  · intro x
    have bay : dispatchBay? r = some b := by
      rcases named with ⟨hr, hp⟩ | ⟨hr, n, hp, hn⟩
      · simp only [dispatchBay?, hr, portRole_bayPort, hp]
      · simp only [dispatchBay?, hr, portRole_officePort, hp, index?_of_names hn]
    exact takeRequest_accepted hasked (by simp only [ownRequestDispatch, bay]; rfl)
  · have bay : dispatchBay? r = none := by simp only [dispatchBay?, hr, portRole_officePort, hp, index?_of_namesNone outside]
    exact takeRequest_refused hasked.1 hasked.2 (by simp only [ownRequestDispatch, bay])
  · have bay : dispatchBay? r = none := by
      rcases bad with ⟨⟨b, hr⟩, hp⟩ | ⟨hr, hp⟩
      · cases hl : r.payload with
        | nil => exact absurd hl hp
        | cons n l => simp only [dispatchBay?, hr, portRole_bayPort, hl]
      · match hl : r.payload with
        | [] => simp only [dispatchBay?, hr, portRole_officePort, hl]
        | [n] => exact absurd (by rw [hl]; rfl) hp
        | n :: m :: l => simp only [dispatchBay?, hr, portRole_officePort, hl]
    exact takeRequest_refused hasked.1 hasked.2 (by simp only [ownRequestDispatch, bay])
  · refine (live_of_running running (dispatchOwed b)).trans ?_
    rw [dispatchOwed, if_pos none]
  · refine (live_of_running running (dispatchOwed b)).trans ?_
    rw [dispatchOwed, if_neg (by omega), State.modBay_eq, owed]
    rfl

/-! ## Bindings given back (R70, R71) -/

/-- Settles O32: CANCEL_BINDING and ABORT_RUN come past the checks of the channel to the one effect. -/
theorem bindingIsGivenBack : Obligations.BindingIsGivenBack := by
  intro r s n named hp hn own fitted c heads
  have channel (s' : State) (hs : s'.channels = s.channels) (k : Chan → Taken) : nameChannel r.port n s' k = k named := by
    have fitted' : ¬(s'.chan named).state = .unfitted := by rw [State.chan, hs]; exact fitted
    rw [nameChannel_of_names hn, own, if_neg Bool.false_ne_true, if_neg fitted']
  have lead (s' : State) (hs : s'.channels = s.channels) : leadOf s' named = c := by
    simp only [c, leadOf, State.chan, hs]
  refine ⟨fun x hx => ?_, fun hasked no => ?_⟩
  · intro returned back
    have given (k : RequestKind) : giveBindingBack c (s.taking k r) = back (s.taking k r) := by
      have bound : ((s.taking k r).chan c).binding = some x := hx
      have back' : returnBinding x.comp c (s.taking k r) = returned (s.taking k r) := rfl
      simp only [giveBindingBack, bound, Option.elim, back']
      rfl
    refine ⟨fun hasked hs => ?_, fun hasked hs => ?_⟩
    · have ok : ((s.taking .cancelBinding r).chan c).binding.isSome = true
          ∧ (((s.taking .cancelBinding r).chan c).state = .bound ∨ ((s.taking .cancelBinding r).chan c).state = .claiming) :=
        ⟨Option.isSome_iff_exists.2 ⟨x, hx⟩, hs⟩
      refine takeRequest_accepted hasked ?_
      simp only [ownCancelBinding, hp, channel (s.taking .cancelBinding r) rfl, lead (s.taking .cancelBinding r) rfl]
      rw [if_pos ok, given]
    · have state : ((s.taking .abortRun r).chan c).state = .bound := hs
      refine takeRequest_accepted hasked ?_
      simp only [ownAbortRun, hp, channel (s.taking .abortRun r) rfl, lead (s.taking .abortRun r) rfl, state, given]
  · refine takeRequest_refused hasked.1 hasked.2 ?_
    simp only [ownCancelBinding, hp, channel (s.taking .cancelBinding r) rfl, lead (s.taking .cancelBinding r) rfl]
    refine if_neg fun h => ?_
    obtain ⟨bound, state⟩ := h
    rcases no with free | ⟨notBound, notClaiming⟩
    · have unbound : ((s.taking .cancelBinding r).chan c).binding = none := free
      rw [unbound] at bound
      exact nomatch bound
    · exact state.elim notBound notClaiming

end Sys2Proof.Machine
end

section
/-! Runs and rehearsals begin (R78, R93): the checks of START_RUN and START_REHEARSAL. -/

namespace Sys2Proof.Machine

open Sys2Proof (Byte Comp Tanker Bay Chan RecipeSlot CargoClass Line Lane Port)

/-- A bay's own channel that is fitted comes past the common checks (R70, R76). -/
theorem nameChannel_own {n : Byte} {c : Chan} {r : Request} {s : State} (hn : Names n c) (hr : r.port = bayPort (bayOf c))
    (fitted : (s.chan c).state ≠ .unfitted) (k : Chan → Taken) : nameChannel r.port n s k = k c := by
  rw [nameChannel_of_names hn, hr, foreignChannel_bayPort]
  simp [fitted]

theorem readyToStart_iff (s : State) (c : Chan) :
    readyToStart s c = true
      ↔ ∀ h ∈ headsOf s c, (s.chan h).state = .bound
          ∧ ((s.chan h).binding.map fun b => b.comp) = (s.chan c).binding.map fun b => b.comp := by
  simp [readyToStart]

theorem unitClaim_fits (p : Plant) (pair : Bool) (x : RecipeStep) :
    (if pair then (stepClaim x).double else stepClaim x).fits p.capacity = true
      ↔ (if pair then 2 else 1) * (stepClaim x).hot ≤ p.hotCapacity ∧ (if pair then 2 else 1) * (stepClaim x).steam ≤ 1
        ∧ (if pair then 2 else 1) * (stepClaim x).doser ≤ 2 := by
  rw [Units.fits_iff]
  cases pair with
  | false => simp only [Bool.false_eq_true, if_false, Nat.one_mul]; rfl
  | true => simp only [if_true]; rfl

theorem recipeFits_iff (p : Plant) (pair : Bool) (x : Recipe) :
    recipeFits p pair x = true
      ↔ ∀ st ∈ x.steps, (if pair then 2 else 1) * (stepClaim st).hot ≤ p.hotCapacity ∧ (if pair then 2 else 1) * (stepClaim st).steam ≤ 1
          ∧ (if pair then 2 else 1) * (stepClaim st).doser ≤ 2 := by
  simp only [recipeFits, List.all_eq_true, unitClaim_fits]

section StartRun

variable {r : Request} {n k : Byte} {named : Chan} {s : State}

/-- START_RUN of a channel, its first two checks (R78). -/
theorem ownStartRun_named (hopen : s.yardOpen = true) (hp : r.payload = [n]) (hn : Names n named) (hr : r.port = bayPort (bayOf named))
    (fitted : (s.chan named).state ≠ .unfitted) :
    let c := leadOf s named
    let ready := ∀ h ∈ headsOf s c, (s.chan h).state = .bound
      ∧ ((s.chan h).binding.map fun b => b.comp) = (s.chan c).binding.map fun b => b.comp
    (¬ready → ownStartRun r s = refuse .wrongState s)
      ∧ (ready → (∃ h ∈ headsOf s c, (s.chan h).headIn = false) → ownStartRun r s = refuse .notReady s)
      ∧ ∀ (b : ChannelBinding) (p : Plan) (x : Recipe), ready → (∀ h ∈ headsOf s c, (s.chan h).headIn = true) →
          (s.chan c).binding = some b → (s.comp b.comp).plan = some p → s.recipe p.slot = some x →
            ownStartRun r s
              = if recipeFits s.plant (isPair s c) x = true then accept [] (beginStep c 1 (setRun c p.slot p.roundsDone s))
                else refuse .unfit s := by
  intro c ready
  have own : ownStartRun r s
      = if !readyToStart s c then refuse .wrongState s
        else if !(headsOf s c).all fun h => (s.chan h).headIn then refuse .notReady s
        else
          match boundPlan s c with
          | none => refuse .wrongState s
          | some p =>
            if !(s.recipe p.slot).all (recipeFits s.plant (isPair s c)) then refuse .unfit s
            else accept [] (beginStep c 1 (setRun c p.slot p.roundsDone s)) := by
    simp only [ownStartRun, whenOpen_of_open hopen, hp, nameChannel_own hn hr fitted]
    rfl
  have isReady : readyToStart s c = true ↔ ready := readyToStart_iff s c
  refine ⟨fun not => ?_, fun yes out => ?_, fun b p x yes allIn hb hplan hx => ?_⟩
  · rw [own, Bool.eq_false_iff.2 (mt isReady.1 not)]
    rfl
  · obtain ⟨h, hh, lifted⟩ := out
    have heads : ((headsOf s c).all fun h => (s.chan h).headIn) = false := List.all_eq_false.2 ⟨h, hh, by rw [lifted]; decide⟩
    rw [own, isReady.2 yes, heads]
    rfl
  · have heads : ((headsOf s c).all fun h => (s.chan h).headIn) = true := List.all_eq_true.2 allIn
    have plan : boundPlan s c = some p := by rw [boundPlan, hb]; exact hplan
    rw [own, isReady.2 yes, heads, plan]
    simp only [hx, Option.all_some]
    cases recipeFits s.plant (isPair s c) x <;> rfl

/-- START_REHEARSAL of a channel and a slot, its checks in order (R93). -/
theorem ownStartRehearsal_named {c : Chan} (hopen : s.yardOpen = true) (hp : r.payload = [n, k]) (hn : Names n c)
    (hr : r.port = bayPort (bayOf c)) (fitted : (s.chan c).state ≠ .unfitted) {slot : RecipeSlot} (hk : Names k slot) :
    ((s.chan c).state ≠ .idle → ownStartRehearsal r s = refuse .wrongState s)
      ∧ ((s.chan c).state = .idle → s.recipe slot = none → ownStartRehearsal r s = refuse .noSuch s)
      ∧ ∀ x : Recipe, (s.chan c).state = .idle → s.recipe slot = some x →
          ownStartRehearsal r s
            = if recipeFits s.plant false x = true then
                accept [] (beginStep c 1 (setRun c slot 0 (s.modChan c fun y => { y with rehearsal := some slot })))
              else refuse .unfit s := by
  refine ⟨fun busy => ?_, fun idle empty => ?_, fun x idle hx => ?_⟩
  · simp only [ownStartRehearsal, whenOpen_of_open hopen, hp, nameChannel_own hn hr fitted, index?_of_names hk, if_pos busy]
  · simp only [ownStartRehearsal, whenOpen_of_open hopen, hp, nameChannel_own hn hr fitted, index?_of_names hk,
      if_neg (not_not.2 idle), empty]
  · simp only [ownStartRehearsal, whenOpen_of_open hopen, hp, nameChannel_own hn hr fitted, index?_of_names hk,
      if_neg (not_not.2 idle), hx]
    cases recipeFits s.plant false x <;> rfl

end StartRun

/-- Settles O33: the owners' checks, and the run context that stands when the first step begins. -/
theorem runsStart : Obligations.RunsStart := by
  refine ⟨fun r s n named hasked hopen hp hn hr fitted => ?_, fun r s n k c hasked hopen hp hn hr fitted => ⟨fun outside => ?_, fun slot hk => ?_⟩⟩
  · intro c heads ready
    obtain ⟨notReady, lifted, starts⟩ := ownStartRun_named (s := s.taking .startRun r) hopen hp hn hr fitted
    refine ⟨fun h => takeRequest_refused hasked.1 hasked.2 (notReady h), fun h out => takeRequest_refused hasked.1 hasked.2 (lifted h out),
      fun b p x h allIn hb hplan hx => ?_⟩
    intro times fits
    have own := starts b p x h allIn hb hplan hx
    have fit : recipeFits (s.taking .startRun r).plant (isPair (s.taking .startRun r) c) x = true ↔ fits := recipeFits_iff _ _ x
    refine ⟨fun unfit => takeRequest_refused hasked.1 hasked.2 (own.trans (if_neg (mt fit.1 unfit))), fun ok => ?_⟩
    exact takeRequest_accepted hasked (own.trans (if_pos (fit.2 ok)))
  · refine takeRequest_refused hasked.1 hasked.2 ?_
    simp only [ownStartRehearsal, whenOpen_of_open (s := s.taking .startRehearsal r) hopen, hp,
      nameChannel_own (s := s.taking .startRehearsal r) hn hr fitted, index?_of_namesNone outside]
  · obtain ⟨busy, empty, starts⟩ := ownStartRehearsal_named (s := s.taking .startRehearsal r) hopen hp hn hr fitted hk
    refine ⟨fun h => takeRequest_refused hasked.1 hasked.2 (busy h), fun idle none => takeRequest_refused hasked.1 hasked.2 (empty idle none),
      fun x idle hx => ?_⟩
    intro fits
    have own := starts x idle hx
    have fit : recipeFits (s.taking .startRehearsal r).plant false x = true ↔ fits := by
      rw [recipeFits_iff]
      simp only [Bool.false_eq_true, if_false, Nat.one_mul]
      rfl
    have run : setRun c slot 0 ((s.taking .startRehearsal r).modChan c fun y => { y with rehearsal := some slot })
        = (s.taking .startRehearsal r).setChan c
            { s.chan c with
              rehearsal := some slot
              run := some { slot := slot, step := 1, passCounter := 0, rounds := 0, passTimer := 0, runningTime := 0 } } :=
      modChan_modChan _ c _ _
    rw [run] at own
    refine ⟨fun unfit => takeRequest_refused hasked.1 hasked.2 (own.trans (if_neg (mt fit.1 unfit))), fun ok => ?_⟩
    exact takeRequest_accepted hasked (own.trans (if_pos (fit.2 ok)))

end Sys2Proof.Machine
end

section
/-! What an arbitration pass grants (R110, R112, R113). -/

namespace Sys2Proof.Machine

open Sys2Proof (Byte Comp Tanker Bay Chan RecipeSlot CargoClass Line Lane Port)

namespace Plant

/-! ## The pass order (R112) -/

theorem passOrder_eq (p : Plant) :
    p.passOrder
      = (p.priority.filter fun c => (p.claims[c]).isSome && !p.exhausted c)
        ++ p.priority.filter fun c => (p.claims[c]).isSome && p.exhausted c := by
  simp only [passOrder, List.filter_filter, Bool.and_comm]

theorem mem_passOrder (p : Plant) (c : Chan) : c ∈ p.passOrder ↔ c ∈ p.priority ∧ (p.claims[c]).isSome = true := by
  rw [passOrder_eq, List.mem_append, List.mem_filter, List.mem_filter]
  cases p.exhausted c <;> simp

theorem passOrder_nodup {p : Plant} (h : p.priority.Nodup) : p.passOrder.Nodup := by
  rw [passOrder_eq, List.nodup_append]
  refine ⟨h.filter _, h.filter _, fun a ha b hb e => ?_⟩
  subst e
  have standing := (List.mem_filter.1 ha).2
  have spent := (List.mem_filter.1 hb).2
  rw [Bool.and_eq_true] at standing spent
  rw [spent.2] at standing
  exact nomatch standing.2

theorem claim_of_mem_passOrder {p : Plant} {c : Chan} (h : c ∈ p.passOrder) : ∃ k, p.claims[c] = some k :=
  Option.isSome_iff_exists.1 ((p.mem_passOrder c).1 h).2

end Plant

/-! ## Units taken one after the other -/

theorem Units.sub_sub (x y z : Units) : (x.sub y).sub z = x.sub (y.add z) := by
  simp only [Units.sub, Units.add, Nat.sub_sub]

theorem Units.add_assoc (x y z : Units) : (x.add y).add z = x.add (y.add z) := by
  simp only [Units.add, Nat.add_assoc]

theorem Units.zero_add (x : Units) : Units.zero.add x = x := by
  simp only [Units.add, Units.zero, Nat.zero_add]

namespace Plant

/-- The units that the waiting claims of several channels ask for. -/
def unitsOf (p : Plant) (l : List Chan) : Units := l.foldl (fun u c => u.add (p.claimUnits c)) Units.zero

theorem unitsOf_cons (p : Plant) (c : Chan) (l : List Chan) : p.unitsOf (c :: l) = (p.claimUnits c).add (p.unitsOf l) := by
  have start (u : Units) (l : List Chan) : l.foldl (fun u c => u.add (p.claimUnits c)) u = u.add (p.unitsOf l) := by
    induction l generalizing u with
    | nil => rfl
    | cons d l ih =>
      rw [unitsOf, List.foldl_cons, List.foldl_cons, ih, ih (Units.zero.add (p.claimUnits d)), Units.zero_add, Units.add_assoc]
  rw [unitsOf, List.foldl_cons, start, Units.zero_add]

/-! ## The claims that a pass grants in turn (R113) -/

/-- A claim may be granted from the free units, beside an anchored claim that still waits. -/
def mayGrant (p : Plant) (anchor : Option Units) (free : Units) (c : Chan) : Bool :=
  (p.claimUnits c).fits free && anchor.all (p.claimUnits c).disjoint

/-- The channels of a list whose claims are granted in turn from the free units. -/
def served (p : Plant) (anchor : Option Units) : Units → List Chan → List Chan
  | _, [] => []
  | free, c :: l => if p.mayGrant anchor free c then c :: p.served anchor (free.sub (p.claimUnits c)) l else p.served anchor free l

variable {p : Plant} {anchor : Option Units}

theorem claimUnits_of_claim {c : Chan} {k : Claim} (h : p.claims[c] = some k) : p.claimUnits c = k.units := by
  rw [claimUnits, h]
  rfl

theorem consider_eq {c : Chan} {k : Claim} (h : p.claims[c] = some k) (x : Passing) :
    p.consider anchor x c = if p.mayGrant anchor x.free c then ⟨x.free.sub (p.claimUnits c), x.granted ++ [c]⟩ else x := by
  simp only [consider, h, mayGrant, claimUnits_of_claim h]

/-- Considering waiting claims in turn grants those that are served. -/
theorem foldl_consider {l : List Chan} (waiting : ∀ c ∈ l, ∃ k, p.claims[c] = some k) (x : Passing) :
    (l.foldl (p.consider anchor) x).granted = x.granted ++ p.served anchor x.free l := by
  induction l generalizing x with
  | nil => exact (List.append_nil _).symm
  | cons c l ih =>
    obtain ⟨k, hk⟩ := waiting c List.mem_cons_self
    have rest : ∀ d ∈ l, ∃ k, p.claims[d] = some k := fun d hd => waiting d (List.mem_cons_of_mem c hd)
    rw [List.foldl_cons, ih rest, consider_eq hk, served]
    split
    · simp only [List.append_assoc, List.singleton_append]
    · rfl

theorem served_sublist (free : Units) (l : List Chan) : (p.served anchor free l).Sublist l := by
  induction l generalizing free with
  | nil => exact List.Sublist.refl _
  | cons c l ih =>
    rw [served]
    split
    · exact (ih _).cons_cons c
    · exact (ih _).cons c

theorem served_append (free : Units) (front back : List Chan) :
    p.served anchor free (front ++ back)
      = p.served anchor free front ++ p.served anchor (free.sub (p.unitsOf (p.served anchor free front))) back := by
  induction front generalizing free with
  | nil => rfl
  | cons c front ih =>
    rw [List.cons_append, served, served]
    split
    · rw [ih, unitsOf_cons, ← Units.sub_sub]
      rfl
    · exact ih free

/-- Of a list that names no channel twice, those served are served once, in their order. -/
theorem served_eq_filter (free : Units) {l : List Chan} (h : l.Nodup) :
    p.served anchor free l = l.filter fun d => decide (d ∈ p.served anchor free l) := by
  induction l generalizing free with
  | nil => rfl
  | cons c l ih =>
    obtain ⟨hc, hl⟩ := List.nodup_cons.1 h
    rw [served]
    split
    · have rest : (l.filter fun d => decide (d ∈ c :: p.served anchor (free.sub (p.claimUnits c)) l))
          = l.filter fun d => decide (d ∈ p.served anchor (free.sub (p.claimUnits c)) l) :=
        List.filter_congr fun d hd => by
          have ne : d ≠ c := fun e => hc (e ▸ hd)
          simp [ne]
      rw [List.filter_cons_of_pos (by simp), rest, ← ih _ hl]
    · have out : ¬decide (c ∈ p.served anchor free l) = true := by
        rw [decide_eq_true_eq]
        exact fun e => hc ((served_sublist free l).subset e)
      rw [List.filter_cons, if_neg out, ← ih free hl]

/-- A claim is granted when its units are free after the grants before it, and the anchored claim leaves them to it. -/
theorem mem_served {l front back : List Chan} {c : Chan} (h : l.Nodup) (hl : l = front ++ c :: back) (free : Units) :
    c ∈ p.served anchor free l
      ↔ p.mayGrant anchor (free.sub (p.unitsOf (front.filter fun d => decide (d ∈ p.served anchor free l)))) c = true := by
  subst hl
  obtain ⟨hfront, hback, apart⟩ := List.nodup_append.1 h
  have front_out : c ∉ front := fun e => apart c e c List.mem_cons_self rfl
  have back_out : c ∉ back := (List.nodup_cons.1 hback).1
  have before : (front.filter fun d => decide (d ∈ p.served anchor free (front ++ c :: back))) = p.served anchor free front := by
    rw [served_eq_filter free hfront]
    refine List.filter_congr fun d hd => ?_
    have later : d ∉ p.served anchor (free.sub (p.unitsOf (p.served anchor free front))) (c :: back) := fun e =>
      apart d hd d ((served_sublist _ _).subset e) rfl
    rw [served_append]
    simp [later]
  rw [before, served_append, List.mem_append, served]
  have notFront : c ∉ p.served anchor free front := fun e => front_out ((served_sublist _ _).subset e)
  have notBack (u : Units) : c ∉ p.served anchor u back := fun e => back_out ((served_sublist _ _).subset e)
  cases p.mayGrant anchor (free.sub (p.unitsOf (p.served anchor free front))) c <;> simp [notFront, notBack]

/-! ## The grants of a pass (R113) -/

theorem passGrants_unanchored (h : ∀ c ∈ p.passOrder, p.isAnchored c = false) : p.passGrants = p.served none p.free p.passOrder := by
  have none : p.passOrder.find? p.isAnchored = none := List.find?_eq_none.2 fun c hc => by rw [h c hc]; decide
  unfold passGrants
  rw [none]
  exact foldl_consider (fun c hc => claim_of_mem_passOrder hc) _

theorem passGrants_anchored {a : Chan} (ha : a ∈ p.passOrder) (found : p.passOrder.find? p.isAnchored = some a) :
    p.passGrants
      = if (p.claimUnits a).fits p.free = true then
          a :: p.served none (p.free.sub (p.claimUnits a)) (p.passOrder.filter fun c => decide (c ≠ a))
        else p.served (some (p.claimUnits a)) p.free (p.passOrder.filter fun c => decide (c ≠ a)) := by
  obtain ⟨k, hk⟩ := claim_of_mem_passOrder ha
  have waiting : ∀ c ∈ p.passOrder.filter fun c => decide (c ≠ a), ∃ k, p.claims[c] = some k := fun c hc =>
    claim_of_mem_passOrder (List.mem_filter.1 hc).1
  have may : p.mayGrant none p.free a = (p.claimUnits a).fits p.free := by simp [mayGrant]
  unfold passGrants
  rw [found]
  dsimp only
  rw [consider_eq hk, may]
  by_cases fits : (p.claimUnits a).fits p.free = true
  · simp only [if_pos fits, List.nil_append, List.mem_singleton, if_true]
    exact foldl_consider waiting _
  · simp only [if_neg fits, List.not_mem_nil, if_false]
    exact foldl_consider waiting _

end Plant

/-- Settles O44: the grants are those served in turn, the anchored claim before the others. -/
theorem passGrantsWholeClaims : Obligations.PassGrantsWholeClaims := by
  refine ⟨fun p => ⟨fun c => decide_eq_true_iff, p.passOrder_eq⟩, fun p nodup => ?_⟩
  have order := Plant.passOrder_nodup nodup
  intro sum granted
  refine ⟨fun none c front back hl => ?_, fun a ha anchored only => ?_⟩
  · have grants : granted = p.served .none p.free p.passOrder := Plant.passGrants_unanchored none
    rw [grants, Plant.mem_served order hl]
    simp only [Plant.mayGrant, Option.all_none, Bool.and_true]
    rfl
  · have found : p.passOrder.find? p.isAnchored = some a := by
      cases h : p.passOrder.find? p.isAnchored with
      | none => exact absurd anchored (List.find?_eq_none.1 h a ha)
      | some d => rw [only d (List.mem_of_find?_eq_some h) (List.find?_some h)]
    have grants : granted = _ := Plant.passGrants_anchored ha found
    have out (anchor : Option Units) (u : Units) : a ∉ p.served anchor u (p.passOrder.filter fun c => decide (c ≠ a)) := fun e => by
      have there := (List.mem_filter.1 ((Plant.served_sublist _ _).subset e)).2
      simp at there
    have rest : (p.passOrder.filter fun c => decide (c ≠ a)).Nodup := order.filter _
    have split {front back : List Chan} {c : Chan} (hc : c ≠ a) (hl : p.passOrder = front ++ c :: back) :
        (p.passOrder.filter fun d => decide (d ≠ a))
          = (front.filter fun d => decide (d ≠ a)) ++ c :: back.filter fun d => decide (d ≠ a) := by
      rw [hl, List.filter_append, List.filter_cons_of_pos (by simpa using hc)]
    by_cases fits : (p.claimUnits a).fits p.free = true
    · rw [if_pos fits] at grants
      have inside : a ∈ granted := by rw [grants]; exact List.mem_cons_self
      refine ⟨iff_of_true inside fits, fun c front back hc hl => ?_⟩
      have others (d : Chan) (hd : d ≠ a) :
          d ∈ granted ↔ d ∈ p.served none (p.free.sub (p.claimUnits a)) (p.passOrder.filter fun c => decide (c ≠ a)) := by
        rw [grants, List.mem_cons, or_iff_right hd]
      have before : (front.filter fun d => decide (d ≠ a) && decide (d ∈ granted))
          = (front.filter fun d => decide (d ≠ a)).filter fun d =>
              decide (d ∈ p.served none (p.free.sub (p.claimUnits a)) (p.passOrder.filter fun c => decide (c ≠ a))) := by
        rw [List.filter_filter]
        refine List.filter_congr fun d _ => ?_
        by_cases hd : d = a
        · simp [hd]
        · simp [hd, others d hd]
      intro list
      have units : p.free.sub (sum list) = (p.free.sub (p.claimUnits a)).sub
          (p.unitsOf (front.filter fun d => decide (d ≠ a) && decide (d ∈ granted))) := by
        rw [Units.sub_sub, ← Plant.unitsOf_cons]
        simp only [list, if_pos inside]
        rfl
      rw [others c hc, Plant.mem_served rest (split hc hl), units, before]
      simp only [Plant.mayGrant, Option.all_none, Bool.and_true, inside, true_or, and_true]
    · rw [if_neg fits] at grants
      have outside : a ∉ granted := by rw [grants]; exact out _ _
      refine ⟨iff_of_false outside fits, fun c front back hc hl => ?_⟩
      have before : (front.filter fun d => decide (d ≠ a) && decide (d ∈ granted))
          = (front.filter fun d => decide (d ≠ a)).filter fun d => decide (d ∈ granted) := by
        rw [List.filter_filter]
        exact List.filter_congr fun d _ => Bool.and_comm ..
      intro list
      have units : sum list = p.unitsOf (front.filter fun d => decide (d ≠ a) && decide (d ∈ granted)) := by
        simp only [list, if_neg outside]
        rfl
      rw [units, before]
      rw [grants]
      rw [Plant.mem_served rest (split hc hl)]
      simp only [Plant.mayGrant, Option.all_some, Bool.and_eq_true, out, false_or]

end Sys2Proof.Machine
end

section
/-! What an arbitration pass makes of the claims, the grants and the priority order (R105, R111, R114). -/

namespace Sys2Proof.Machine

open Sys2Proof (Byte Comp Tanker Bay Chan RecipeSlot CargoClass Line Lane Port)

namespace Plant

variable {p : Plant}

/-! ## Grants made one after the other (R105, R111) -/

theorem grant_of_claim {c : Chan} {k : Claim} (h : p.claims[c] = some k) :
    (p.grant c).claims = put p.claims c none
      ∧ (p.grant c).grants = put p.grants c (some { kind := k.kind, units := k.units, pair := k.pair }) := by
  simp only [grant, h, rotate_claims, rotate_grants]
  exact ⟨rfl, rfl⟩

theorem grant_of_none {c : Chan} (h : p.claims[c] = none) : p.grant c = p := by
  simp only [grant, h]

theorem claims_grants (l : List Chan) (p : Plant) (c : Chan) :
    (l.foldl grant p).claims[c] = if c ∈ l then none else p.claims[c] := by
  induction l generalizing p with
  | nil => simp
  | cons d l ih =>
    have first : (p.grant d).claims[c] = if c = d then none else p.claims[c] := by
      cases h : p.claims[d] with
      | none =>
        rw [grant_of_none h]
        split
        · next e => rw [e, h]
        · rfl
      | some k => rw [(grant_of_claim h).1, put_get]
    rw [List.foldl_cons, ih, first]
    by_cases hc : c = d <;> by_cases hl : c ∈ l <;> simp [hc, hl]

theorem grants_grants_of_notMem {l : List Chan} {c : Chan} (h : c ∉ l) (p : Plant) : (l.foldl grant p).grants[c] = p.grants[c] := by
  induction l generalizing p with
  | nil => rfl
  | cons d l ih =>
    obtain ⟨hd, hl⟩ := not_or.1 (mt List.mem_cons.2 h)
    rw [List.foldl_cons, ih hl]
    cases hk : p.claims[d] with
    | none => rw [grant_of_none hk]
    | some k => rw [(grant_of_claim hk).2, put_get_ne _ _ hd]

theorem grants_grants_of_mem {l : List Chan} {c : Chan} (h : c ∈ l) {k : Claim} (hk : p.claims[c] = some k) :
    (l.foldl grant p).grants[c] = some { kind := k.kind, units := k.units, pair := k.pair } := by
  induction l generalizing p with
  | nil => exact nomatch h
  | cons d l ih =>
    rw [List.foldl_cons]
    by_cases e : c = d
    · subst e
      have spent : ∀ (l : List Chan) (q : Plant), q.claims[c] = none → (l.foldl grant q).grants[c] = q.grants[c] := by
        intro l
        induction l with
        | nil => exact fun _ _ => rfl
        | cons d l ih =>
          intro q hq
          rw [List.foldl_cons]
          cases hd : q.claims[d] with
          | none =>
            rw [grant_of_none hd]
            exact ih q hq
          | some j =>
            have ne : c ≠ d := fun e => by rw [e, hd] at hq; exact nomatch hq
            obtain ⟨claims, grants⟩ := grant_of_claim hd
            rw [ih (q.grant d) (by rw [claims, put_get_ne _ _ ne, hq]), grants, put_get_ne _ _ ne]
      obtain ⟨claims, grants⟩ := grant_of_claim hk
      rw [spent l _ (by rw [claims, put_get_self]), grants, put_get_self]
    · have first : (p.grant d).claims[c] = some k := by
        cases hd : p.claims[d] with
        | none => rw [grant_of_none hd, hk]
        | some j => rw [(grant_of_claim hd).1, put_get_ne _ _ e, hk]
      exact ih ((List.mem_cons.1 h).resolve_left e) first

/-- Where a grant moves its channel, or the heads of a pair, under ROTATING (R111). -/
def moveDown (p : Plant) (order : List Chan) (c : Chan) : List Chan :=
  if (p.claims[c]).any fun k => k.pair then
    (order.filter fun d => decide (d ≠ headA (bayOf c) ∧ d ≠ headB (bayOf c))) ++ [headA (bayOf c), headB (bayOf c)]
  else (order.filter fun d => decide (d ≠ c)) ++ [c]

theorem grant_priority_fixed (h : p.scheme = .fixed) (c : Chan) : (p.grant c).priority = p.priority := by
  cases hk : p.claims[c] with
  | none => rw [grant_of_none hk]
  | some k =>
    have scheme : ((p.setClaim c none).setGrant c (some ⟨k.kind, k.units, k.pair⟩)).scheme = .fixed := h
    simp only [grant, hk, rotate, scheme]
    rfl

theorem grants_priority_fixed (l : List Chan) (h : p.scheme = .fixed) : (l.foldl grant p).priority = p.priority := by
  induction l generalizing p with
  | nil => rfl
  | cons c l ih => rw [List.foldl_cons, ih ((grant_setup p c).scheme.trans h), grant_priority_fixed h]

theorem grant_priority_rotating (h : p.scheme = .rotating) {c : Chan} {k : Claim} (hk : p.claims[c] = some k) :
    (p.grant c).priority = p.moveDown p.priority c := by
  have scheme : ((p.setClaim c none).setGrant c (some ⟨k.kind, k.units, k.pair⟩)).scheme = .rotating := h
  have heads (d : Chan) : decide (d ∉ [headA (bayOf c), headB (bayOf c)]) = decide (d ≠ headA (bayOf c) ∧ d ≠ headB (bayOf c)) := by
    simp
  simp only [grant, hk, rotate, scheme, moveDown, Option.any_some, heads]
  cases k.pair <;> rfl

theorem grants_priority_rotating {l : List Chan} (hl : l.Nodup) (h : p.scheme = .rotating)
    (waiting : ∀ c ∈ l, ∃ k, p.claims[c] = some k) : (l.foldl grant p).priority = l.foldl p.moveDown p.priority := by
  induction l generalizing p with
  | nil => rfl
  | cons c l ih =>
    obtain ⟨hc, hl⟩ := List.nodup_cons.1 hl
    obtain ⟨k, hk⟩ := waiting c List.mem_cons_self
    have kept : ∀ d ∈ l, (p.grant c).claims[d] = p.claims[d] := fun d hd => by
      have ne : d ≠ c := fun e => hc (e ▸ hd)
      rw [(grant_of_claim hk).1, put_get_ne _ _ ne]
    have same : ∀ order, l.foldl (p.grant c).moveDown order = l.foldl p.moveDown order := fun order =>
      List.foldl_ext _ _ _ fun o d hd => by simp only [moveDown, kept d hd]
    rw [List.foldl_cons, ih hl ((grant_setup p c).scheme.trans h), same, grant_priority_rotating h hk, List.foldl_cons]
    intro d hd
    rw [kept d hd]
    exact waiting d (List.mem_cons_of_mem c hd)

theorem passGrants_nodup (h : p.priority.Nodup) : p.passGrants.Nodup := by
  have order := passOrder_nodup h
  cases found : p.passOrder.find? p.isAnchored with
  | none =>
    rw [passGrants_unanchored fun c hc => Bool.eq_false_iff.2 (List.find?_eq_none.1 found c hc)]
    exact order.sublist (served_sublist _ _)
  | some a =>
    have rest := order.filter fun c => decide (c ≠ a)
    rw [passGrants_anchored (List.mem_of_find?_eq_some found) found]
    split
    · refine List.nodup_cons.2 ⟨fun e => ?_, rest.sublist (served_sublist _ _)⟩
      have ne := (List.mem_filter.1 ((served_sublist _ _).subset e)).2
      simp at ne
    · exact rest.sublist (served_sublist _ _)

theorem passGrants_waiting {c : Chan} (h : c ∈ p.passGrants) : c ∈ p.passOrder := by
  cases found : p.passOrder.find? p.isAnchored with
  | none =>
    rw [passGrants_unanchored fun c hc => Bool.eq_false_iff.2 (List.find?_eq_none.1 found c hc)] at h
    exact (served_sublist _ _).subset h
  | some a =>
    have inOrder := List.mem_of_find?_eq_some found
    rw [passGrants_anchored inOrder found] at h
    split at h
    · rcases List.mem_cons.1 h with rfl | h
      · exact inOrder
      · exact (List.mem_filter.1 ((served_sublist _ _).subset h)).1
    · exact (List.mem_filter.1 ((served_sublist _ _).subset h)).1

/-! ## Skips (R114) -/

/-- A claim's skips after a pass, behind which some channels wait. -/
def skipsAfter (limit : Nat) (granted : List Chan) (k : Claim) (behind : List Chan) : Nat :=
  if k.anchored = false ∧ (∃ d ∈ behind, d ∈ granted) ∧ k.skips < limit then k.skips + 1 else k.skips

theorem servedBehind_eq {order front back : List Chan} {c : Chan} (h : order.Nodup) (hl : order = front ++ c :: back) (granted : List Chan) :
    servedBehind order granted c = true ↔ ∃ d ∈ back, d ∈ granted := by
  subst hl
  obtain ⟨-, -, apart⟩ := List.nodup_append.1 h
  have drop : ((front ++ c :: back).dropWhile fun x => decide (x ≠ c)) = c :: back := by
    have all : ∀ x ∈ front, decide (x ≠ c) = true := fun x hx => decide_eq_true (apart x hx c List.mem_cons_self)
    rw [List.dropWhile_append_of_pos all, List.dropWhile_cons_of_neg (by simp)]
  rw [servedBehind, drop]
  simp

theorem claims_countSkip_ne (limit : Nat) (order granted : List Chan) (p : Plant) {c d : Chan} (h : c ≠ d) :
    (countSkip limit order granted p d).claims[c] = p.claims[c] := by
  unfold countSkip
  split
  · rfl
  · split <;> [exact put_get_ne _ _ h; rfl]

theorem claims_countSkip_self {limit : Nat} {order granted : List Chan} {c : Chan} {k : Claim} (hk : p.claims[c] = some k) :
    (countSkip limit order granted p c).claims[c]
      = some { k with
          skips := if k.anchored = false ∧ servedBehind order granted c = true ∧ k.skips < limit then k.skips + 1 else k.skips } := by
  have test : (!k.anchored && servedBehind order granted c && decide (k.skips < limit)) = true
      ↔ k.anchored = false ∧ servedBehind order granted c = true ∧ k.skips < limit := by simp [and_assoc]
  simp only [countSkip, hk, test]
  split
  · exact put_get_self ..
  · exact hk

theorem claims_countSkips_none (limit : Nat) (order granted l : List Chan) {c : Chan} (h : p.claims[c] = none) :
    (l.foldl (countSkip limit order granted) p).claims[c] = none := by
  induction l generalizing p with
  | nil => exact h
  | cons d l ih =>
    refine ih ?_
    by_cases e : c = d
    · subst e
      simp only [countSkip, h]
    · rw [claims_countSkip_ne _ _ _ _ e, h]

theorem claims_countSkips_notMem (limit : Nat) (order granted : List Chan) {l : List Chan} {c : Chan} (h : c ∉ l) (p : Plant) :
    (l.foldl (countSkip limit order granted) p).claims[c] = p.claims[c] := by
  induction l generalizing p with
  | nil => rfl
  | cons d l ih =>
    obtain ⟨hd, hl⟩ := not_or.1 (mt List.mem_cons.2 h)
    rw [List.foldl_cons, ih hl, claims_countSkip_ne _ _ _ _ hd]

/-- A claim that waits through the pass gains its skip when its own place in the order is counted. -/
theorem claims_countSkips {limit : Nat} {order granted front back : List Chan} {c : Chan} {k : Claim} (h : order.Nodup)
    (hl : order = front ++ c :: back) (hk : p.claims[c] = some k) :
    (order.foldl (countSkip limit order granted) p).claims[c] = some { k with skips := skipsAfter limit granted k back } := by
  have behind := servedBehind_eq h hl granted
  suffices ∀ l, l = front ++ c :: back → (l.foldl (countSkip limit order granted) p).claims[c]
      = some { k with skips := skipsAfter limit granted k back } from this order hl
  intro l e
  subst e
  subst hl
  obtain ⟨-, hback, apart⟩ := List.nodup_append.1 h
  have notFront : c ∉ front := fun e => apart c e c List.mem_cons_self rfl
  have notBack : c ∉ back := (List.nodup_cons.1 hback).1
  rw [List.foldl_append, List.foldl_cons, claims_countSkips_notMem _ _ _ notBack,
    claims_countSkip_self ((claims_countSkips_notMem _ _ _ notFront p).trans hk)]
  simp only [skipsAfter, behind]

/-! ## The anchor (R114) -/

theorem chooseAnchor_still {limit : Nat} {order : List Chan} (h : ∃ d ∈ order, p.isAnchored d = true) : p.chooseAnchor limit order = p := by
  rw [chooseAnchor, if_pos (List.any_eq_true.2 h)]

theorem chooseAnchor_found {limit : Nat} {order : List Chan} {c : Chan} {k : Claim} (h : ¬∃ d ∈ order, p.isAnchored d = true)
    (found : order.find? (p.atLimit limit) = some c) (hk : p.claims[c] = some k) :
    p.chooseAnchor limit order = p.setClaim c (some { k with anchored := true }) := by
  rw [chooseAnchor, if_neg (mt List.any_eq_true.1 h)]
  simp only [found, hk]

theorem claims_chooseAnchor_other {limit : Nat} {order : List Chan} {c : Chan}
    (h : order.find? (p.atLimit limit) ≠ some c ∨ p.claims[c] = none) : (p.chooseAnchor limit order).claims[c] = p.claims[c] := by
  unfold chooseAnchor
  split
  · rfl
  · cases found : order.find? (p.atLimit limit) with
    | none => rfl
    | some d =>
      dsimp only
      cases hd : p.claims[d] with
      | none => rfl
      | some k =>
        have ne : c ≠ d := fun e => h.elim (fun out => out (found.trans (by rw [e]))) fun none => by
          rw [e, hd] at none
          exact nomatch none
        exact put_get_ne _ _ ne

theorem SameSetup.eq_with {q : Plant} (h : SameSetup p q) : q = { p with priority := q.priority, claims := q.claims, grants := q.grants } := by
  obtain ⟨capacity, scheme, tokens, timer, due⟩ := h
  rw [← capacity, ← scheme, ← tokens, ← timer, ← due]

end Plant

/-- Settles O45: the grants, the skips and the anchor one after the other. -/
theorem passCountsSkips : Obligations.PassCountsSkips := by
  intro p limit nodup granted q
  have order := Plant.passOrder_nodup nodup
  have grants : q.grants = (granted.foldl Plant.grant p).grants :=
    (Plant.chooseAnchor_grants ..).trans (Plant.countSkips_grants ..)
  have priority : q.priority = (granted.foldl Plant.grant p).priority := Plant.pass_priority_eq limit p
  have setup := Plant.pass_setup limit p
  have waiting : ∀ c ∈ granted, ∃ k, p.claims[c] = some k := fun c hc => Plant.claim_of_mem_passOrder (Plant.passGrants_waiting hc)
  generalize hm : p.passOrder.foldl (Plant.countSkip limit p.passOrder granted) (granted.foldl Plant.grant p) = m
  have hq : q = m.chooseAnchor limit p.passOrder := by rw [← hm]; rfl
  have gone {c : Chan} (h : (granted.foldl Plant.grant p).claims[c] = none) : m.claims[c] = none := by
    rw [← hm]; exact Plant.claims_countSkips_none _ _ _ _ h
  have goneAfter {c : Chan} (h : m.claims[c] = none) : q.claims[c] = none := by
    rw [hq, Plant.claims_chooseAnchor_other (.inr h), h]
  have counted {c : Chan} {k : Claim} {front back : List Chan} (hk : p.claims[c] = some k) (hc : c ∉ granted)
      (hl : p.passOrder = front ++ c :: back) : m.claims[c] = some { k with skips := Plant.skipsAfter limit granted k back } := by
    have stays : (granted.foldl Plant.grant p).claims[c] = some k := by rw [Plant.claims_grants, if_neg hc, hk]
    rw [← hm]
    exact Plant.claims_countSkips order hl stays
  refine ⟨rfl, ?_, fun c h => ?_, fun c k hk hc => ⟨?_, ?_⟩, fun c hc => ?_, fun fixed => ?_, fun rotating => ?_, ?_⟩
  · exact setup.eq_with
  · exact goneAfter (gone (by rw [Plant.claims_grants, h, ite_self]))
  · exact goneAfter (gone (by rw [Plant.claims_grants, if_pos hc]))
  · rw [grants]
    exact Plant.grants_grants_of_mem hc hk
  · rw [grants]
    exact Plant.grants_grants_of_notMem hc p
  · rw [priority]
    exact Plant.grants_priority_fixed granted fixed
  · intro down
    rw [priority]
    exact Plant.grants_priority_rotating (Plant.passGrants_nodup nodup) rotating waiting
  · intro skips stillAnchored c k front back hk hc hl chosen
    have mine := counted hk hc hl
    have anchored {d : Chan} (hd : d ∈ p.passOrder) : m.isAnchored d = true ↔ d ∉ granted ∧ p.isAnchored d = true := by
      obtain ⟨j, hj⟩ := Plant.claim_of_mem_passOrder hd
      obtain ⟨front', back', hl'⟩ := List.append_of_mem hd
      by_cases hg : d ∈ granted
      · have none := gone (c := d) (by rw [Plant.claims_grants, if_pos hg])
        simp [Plant.isAnchored, none, hg]
      · simp [Plant.isAnchored, counted hj hg hl', hj, hg]
    have still : (∃ d ∈ p.passOrder, m.isAnchored d = true) ↔ stillAnchored :=
      exists_congr fun d => and_congr_right fun hd => anchored hd
    have limitMine : m.atLimit limit c = true ↔ limit ≤ skips c k back := by
      rw [Plant.atLimit, mine]
      exact decide_eq_true_iff
    have found : p.passOrder.find? (m.atLimit limit) = some c
        ↔ limit ≤ skips c k back ∧ ∀ (d : Chan) (j : Claim) (front' back' : List Chan), p.claims[d] = some j → d ∉ granted →
            d ∈ front → p.passOrder = front' ++ d :: back' → skips d j back' < limit := by
      rw [List.find?_eq_some_iff_append, limitMine]
      refine and_congr_right fun _ => ⟨fun ⟨front₁, back₁, h₁, before⟩ d j front' back' hj hg hd hl' => ?_, fun before => ?_⟩
      · have same : front₁ = front := by
          rw [h₁] at order
          obtain ⟨-, tail, apart⟩ := List.nodup_append.1 order
          exact ((List.append_cons_inj_of_notMem (fun e => apart c e c List.mem_cons_self rfl) (List.nodup_cons.1 tail).1).1
            (h₁.symm.trans hl)).1
        have below := before d (same ▸ hd)
        rw [Plant.atLimit, counted hj hg hl', Option.any_some, Bool.not_eq_true', decide_eq_false_iff_not] at below
        exact Nat.lt_of_not_le below
      · refine ⟨front, back, hl, fun d hd => ?_⟩
        have inOrder : d ∈ p.passOrder := by rw [hl]; exact List.mem_append_left _ hd
        obtain ⟨j, hj⟩ := Plant.claim_of_mem_passOrder inOrder
        obtain ⟨front', back', hl'⟩ := List.append_of_mem inOrder
        by_cases hg : d ∈ granted
        · have none := gone (c := d) (by rw [Plant.claims_grants, if_pos hg])
          simp [Plant.atLimit, none]
        · have below := before d j front' back' hj hg hd hl'
          rw [Plant.atLimit, counted hj hg hl', Option.any_some, Bool.not_eq_true', decide_eq_false_iff_not]
          exact Nat.not_le_of_lt below
    refine ⟨fun ⟨free, first⟩ => ?_, fun not => ?_⟩
    · rw [hq, Plant.chooseAnchor_found (mt still.1 free) (found.2 first) mine]
      exact put_get_self ..
    · rw [hq]
      by_cases free : stillAnchored
      · rw [Plant.chooseAnchor_still (still.2 free)]
        exact mine
      · rw [Plant.claims_chooseAnchor_other (.inl fun e => not ⟨free, found.1 e⟩)]
        exact mine

end Sys2Proof.Machine
end

section
/-! A step begins (R43, R79, R83, R104, R105): its claim, the channels in CLAIMING, and the arbiter's pass. -/

namespace Sys2Proof.Machine

open Sys2Proof (Byte Comp Tanker Bay Chan RecipeSlot CargoClass Line Lane Port)

/-! ## States apart in their channels alone -/

/-- Two states made of one by changes to its channels are one when their channels are. -/
theorem State.eq_of_channels {s t u : State} (ht : t = { s with channels := t.channels }) (hu : u = { s with channels := u.channels })
    (h : ∀ c, t.chan c = u.chan c) : t = u := by
  have channels : t.channels = u.channels := Vector.ext fun i hi => h ⟨i, hi⟩
  rw [ht, hu, channels]

theorem State.setChan_setChan (s : State) (c : Chan) (x y : WashChannel) : (s.setChan c x).setChan c y = s.setChan c y := by
  simp only [State.setChan, put_put_self]

theorem modHeads_fields (l : List Chan) (f : WashChannel → WashChannel) (s : State) :
    modHeads l f s = { s with channels := (modHeads l f s).channels } := by
  induction l generalizing s with
  | nil => rfl
  | cons c l ih => exact ih (s.modChan c f)

theorem headsOf_nodup (s : State) (c : Chan) : (headsOf s c).Nodup := by
  unfold headsOf
  split
  · simp [headA_ne_headB]
  · exact List.nodup_singleton c

theorem chan_modHeads {l : List Chan} (hl : l.Nodup) (f : WashChannel → WashChannel) (s : State) (d : Chan) :
    (modHeads l f s).chan d = if d ∈ l then f (s.chan d) else s.chan d := by
  induction l generalizing s with
  | nil => simp [modHeads_nil]
  | cons c l ih =>
    obtain ⟨hc, hl⟩ := List.nodup_cons.1 hl
    rw [modHeads_cons, ih hl, chan_modChan]
    by_cases hd : d = c
    · subst hd
      simp [hc]
    · simp [hd]

/-- A change of one channel beside a change of several: where the two do not matter to each other, in either order. -/
theorem modChan_modHeads (c : Chan) {f g : WashChannel → WashChannel} (comm : ∀ x, f (g x) = g (f x)) {l : List Chan} (hl : l.Nodup)
    (s : State) : (modHeads l g s).modChan c f = modHeads l g (s.modChan c f) := by
  have left : (modHeads l g s).modChan c f = { s with channels := ((modHeads l g s).modChan c f).channels } := by
    rw [State.modChan_eq]
    conv_lhs => rw [modHeads_fields l g s]
    rfl
  have right : modHeads l g (s.modChan c f) = { s with channels := (modHeads l g (s.modChan c f)).channels } :=
    modHeads_fields l g (s.modChan c f)
  refine State.eq_of_channels left right fun d => ?_
  rw [chan_modChan, chan_modHeads hl, chan_modHeads hl, chan_modHeads hl, chan_modChan]
  by_cases hd : d = c
  · subst hd
    by_cases hm : d ∈ l <;> simp [hm, comm]
  · by_cases hm : d ∈ l <;> simp [hm, hd]

/-! ## The claim of a step (R43) -/

theorem stepClaim_eq_zero (x : RecipeStep) :
    stepClaim x = ⟨0, 0, 0⟩ ↔ x.dose = false ∧ x.supply ≠ .steam ∧ (x.supply = .hot → x.hotUnits = 0) := by
  rw [stepClaim, Units.mk.injEq]
  cases x.supply <;> cases x.dose <;> simp

/-! ## A lone claim (R112 to R114) -/

namespace Plant

variable {p : Plant} {c : Chan} {k : Claim}

theorem passOrder_lone (h : p.priority.Perm startOrder) (hk : p.claims[c] = some k) (others : ∀ d : Chan, d ≠ c → p.claims[d] = none) :
    p.passOrder = [c] := by
  have nodup : p.priority.Nodup := h.nodup_iff.2 (by decide)
  have all : ∀ d : Chan, d ∈ startOrder := by decide
  refine List.perm_singleton.1 ((List.perm_ext_iff_of_nodup (passOrder_nodup nodup) (List.nodup_singleton c)).2 fun d => ?_)
  rw [mem_passOrder, List.mem_singleton]
  constructor
  · rintro ⟨-, waiting⟩
    by_contra e
    rw [others d e] at waiting
    exact nomatch waiting
  · rintro rfl
    exact ⟨h.mem_iff.2 (all d), by rw [hk]; rfl⟩

/-- A lone claim whose units are free is the pass's one grant. -/
theorem pass_lone_fits (limit : Nat) (h : p.priority.Perm startOrder) (hk : p.claims[c] = some k)
    (others : ∀ d : Chan, d ≠ c → p.claims[d] = none) (free : k.anchored = false) (fits : k.units.fits p.free = true) :
    p.pass limit = (p.grant c, [c]) := by
  have order := passOrder_lone h hk others
  have unanchored : ∀ d ∈ p.passOrder, p.isAnchored d = false := fun d hd => by
    rw [order, List.mem_singleton] at hd
    rw [hd, isAnchored, hk]
    exact free
  have grants : p.passGrants = [c] := by
    rw [passGrants_unanchored unanchored, order]
    simp [served, mayGrant, claimUnits_of_claim hk, fits]
  have gone : (p.grant c).claims[c] = none := by rw [(grant_of_claim hk).1, put_get_self]
  have skips : countSkip limit [c] [c] (p.grant c) c = p.grant c := by simp only [countSkip, gone]
  have anchor : (p.grant c).chooseAnchor limit [c] = p.grant c := by
    simp [chooseAnchor, isAnchored, atLimit, gone]
  simp only [pass, order, grants, List.foldl_cons, List.foldl_nil, skips, anchor]

/-- A lone claim whose units are not free waits as it did. -/
theorem pass_lone_waits {limit : Nat} (h : p.priority.Perm startOrder) (hk : p.claims[c] = some k)
    (others : ∀ d : Chan, d ≠ c → p.claims[d] = none) (free : k.anchored = false) (below : k.skips < limit)
    (fits : k.units.fits p.free = false) : p.pass limit = (p, []) := by
  have order := passOrder_lone h hk others
  have unanchored : ∀ d ∈ p.passOrder, p.isAnchored d = false := fun d hd => by
    rw [order, List.mem_singleton] at hd
    rw [hd, isAnchored, hk]
    exact free
  have grants : p.passGrants = [] := by
    rw [passGrants_unanchored unanchored, order]
    simp [served, mayGrant, claimUnits_of_claim hk, fits]
  have skips : countSkip limit [c] [] p c = p := by
    simp [countSkip, hk, servedBehind]
  have anchor : p.chooseAnchor limit [c] = p := by
    simp [chooseAnchor, isAnchored, atLimit, hk, free, below]
  simp only [pass, order, grants, List.foldl_cons, List.foldl_nil, skips, anchor]

/-- A grant as the plant stands after it (R105, R111). -/
theorem grant_eq (hk : p.claims[c] = some k) :
    p.grant c
      = { p with
          claims := put p.claims c none
          grants := put p.grants c (some { kind := k.kind, units := k.units, pair := k.pair })
          priority :=
            match p.scheme with
            | .fixed => p.priority
            | .rotating =>
              if k.pair then
                (p.priority.filter fun d => decide (d ≠ headA (bayOf c) ∧ d ≠ headB (bayOf c))) ++ [headA (bayOf c), headB (bayOf c)]
              else (p.priority.filter fun d => decide (d ≠ c)) ++ [c] } := by
  have heads (d : Chan) : decide (d ∉ [headA (bayOf c), headB (bayOf c)]) = decide (d ≠ headA (bayOf c) ∧ d ≠ headB (bayOf c)) := by
    simp
  simp only [grant, hk, rotate, heads]
  obtain ⟨capacity, scheme, priority, tokens, claims, grants, timer, due⟩ := p
  cases scheme with
  | fixed => rfl
  | rotating => cases k.pair <;> rfl

end Plant

/-! ## A step begins (R79) -/

/-- A channel, or both heads of its pair, in CLAIMING for a step, with the step's pass counter (R79). -/
def claiming (c : Chan) (n : Nat) (st : RecipeStep) (r : RunContext) (s : State) : State :=
  modHeads (headsOf s c) (fun y => { y with state := .claiming })
    (s.setChan c { s.chan c with run := some { r with step := n, passCounter := st.extraPasses } })

theorem claiming_binding (c : Chan) (n : Nat) (st : RecipeStep) (r : RunContext) (s : State) (d : Chan) :
    ((claiming c n st r s).chan d).binding = (s.chan d).binding := by
  rw [claiming, modHeads_binding, State.chan_setChan]
  · split
    · next e => rw [e]
    · rfl
  · exact fun _ => rfl

theorem isPair_eq {s t : State} {c : Chan} (h : (t.chan c).binding = (s.chan c).binding) : isPair t c = isPair s c := by
  unfold isPair
  rw [h]

theorem leadOf_eq {s t : State} {c : Chan} (h : (t.chan c).binding = (s.chan c).binding) : leadOf t c = leadOf s c := by
  unfold leadOf
  rw [h]

/-- What beginning a step comes to, once its claim is known (R79). -/
theorem beginStep_eq {c : Chan} {n : Nat} {s : State} {r : RunContext} {x : Recipe} {st : RecipeStep} (lead : leadOf s c = c)
    (hr : (s.chan c).run = some r) (hx : s.recipe r.slot = some x) (hn : 1 ≤ n) (hst : x.steps[n - 1]? = some st) :
    beginStep c n s
      = if unitClaim s c st = Units.zero then
          takeReleases 9 (enterRunning c (claiming c n st r s)).2 (enterRunning c (claiming c n st r s)).1
        else lodgeClaim c (if (s.chan c).rehearsal = none then .run else .rehearsal) (unitClaim s c st) (claiming c n st r s) := by
  have heads := headsOf_nodup s c
  have stepped : modRun c (fun r => { r with step := n }) s = s.setChan c { s.chan c with run := some { r with step := n } } := by
    rw [modRun, State.modChan_eq, hr]
    rfl
  have counted : modRun c (fun r => { r with passCounter := st.extraPasses })
        (modHeads (headsOf s c) (fun x => { x with state := .claiming }) (modRun c (fun r => { r with step := n }) s))
      = claiming c n st r s := by
    rw [modRun, modChan_modHeads c ?_ heads, stepped, State.modChan_eq, State.chan_setChan_self, State.setChan_setChan]
    · rfl
    · exact fun _ => rfl
  have step : stepOf (modHeads (headsOf s c) (fun x => { x with state := .claiming }) (modRun c (fun r => { r with step := n }) s)) c
      = some st := by
    have binding : ((modHeads (headsOf s c) (fun x => { x with state := .claiming }) (modRun c (fun r => { r with step := n }) s)).chan
        c).binding = (s.chan c).binding := by
      rw [modHeads_binding, stepped, State.chan_setChan_self]
      exact fun _ => rfl
    have run : ((modHeads (headsOf s c) (fun x => { x with state := .claiming }) (modRun c (fun r => { r with step := n }) s)).chan
        c).run = some { r with step := n } := by
      rw [chan_modHeads heads, stepped, State.chan_setChan_self]
      split <;> rfl
    have recipe : (modHeads (headsOf s c) (fun x => { x with state := .claiming }) (modRun c (fun r => { r with step := n }) s)).recipe
        r.slot = some x := by
      rw [modHeads_fields]
      exact hx
    rw [stepOf, runOf, leadOf_eq binding, lead, run, Option.bind_some, recipe, Option.bind_some, Recipe.step?, if_neg (Nat.one_le_iff_ne_zero.1 hn)]
    exact hst
  have claim : unitClaim (claiming c n st r s) c st = unitClaim s c st := by
    rw [unitClaim, isPair_eq (claiming_binding c n st r s c)]
    rfl
  have kind : (if rehearses (claiming c n st r s) c then ClaimKind.rehearsal else .run)
      = if (s.chan c).rehearsal = none then .run else .rehearsal := by
    have same : ((claiming c n st r s).chan c).rehearsal = (s.chan c).rehearsal := by
      rw [claiming, chan_modHeads heads, State.chan_setChan_self]
      split <;> rfl
    rw [rehearses, same]
    cases (s.chan c).rehearsal <;> rfl
  unfold beginStep
  simp only [step, counted, claim, kind]

/-- The heads of a run enter RUNNING from CLAIMING (R80). -/
theorem claiming_entered (c : Chan) (n : Nat) (st : RecipeStep) (r : RunContext) (s : State) :
    (claiming c n st r s).entered c
      = modHeads (headsOf s c) (fun y => { y with state := .running, meter := 0, headDone := false })
          (s.setChan c
            { s.chan c with
              run := some { r with step := n, passCounter := st.extraPasses, passTimer := 0, runningTime := 0 } }) := by
  rw [State.entered, headsOf_eq (claiming_binding c n st r s c), claiming, modHeads_headsOf]
  rw [modRun, modChan_modHeads c ?_ (headsOf_nodup s c), State.modChan_eq, State.chan_setChan_self, State.setChan_setChan]
  · rfl
  · exact fun _ => rfl

/-- A channel or its pair at the start of a pass, its run context written out (R80). -/
theorem entered_eq {s : State} {c : Chan} {r : RunContext} (hr : (s.chan c).run = some r) :
    s.entered c
      = modHeads (headsOf s c) (fun y => { y with state := .running, meter := 0, headDone := false })
          (s.setChan c { s.chan c with run := some { r with passTimer := 0, runningTime := 0 } }) := by
  rw [State.entered, modRun, modChan_modHeads c ?_ (headsOf_nodup s c), State.modChan_eq, hr]
  · rfl
  · exact fun _ => rfl

theorem entered_setPlant (s : State) (c : Chan) (p : Plant) (r : RunContext) (hr : (s.chan c).run = some r) :
    (s.setPlant p).entered c
      = { modHeads (headsOf s c) (fun y => { y with state := .running, meter := 0, headDone := false })
            (s.setChan c { s.chan c with run := some { r with passTimer := 0, runningTime := 0 } }) with
          plant := p } := by
  have through (l : List Chan) (f : WashChannel → WashChannel) (t : State) :
      modHeads l f (t.setPlant p) = { modHeads l f t with plant := p } := by
    induction l generalizing t with
    | nil => rfl
    | cons d l ih => exact ih (t.modChan d f)
  rw [← through]
  exact entered_eq (s := s.setPlant p) hr

theorem mem_headsOf_self (s : State) (c : Chan) : c ∈ headsOf s c := by
  unfold headsOf
  split
  · rcases (bayOf_eq_iff (bayOf c) c).1 rfl with h | h
    · rw [← h]
      exact List.mem_cons_self
    · rw [← h]
      exact List.mem_cons_of_mem _ List.mem_cons_self
  · exact List.mem_singleton_self c

/-- An arbitration pass while the permit is asserted releases nothing (R83, R105). -/
theorem arbitrate_permit {s : State} (h : s.permit = true) :
    s.handed.2 = [] ∧ arbitrate s = s.handed.1
      ∧ arbitrate s
          = (s.plant.pass (s.setting .skipLimit)).2.foldl (fun t c => if (t.chan c).state = .claiming then t.entered c else t)
              (s.setPlant (s.plant.pass (s.setting .skipLimit)).1) := by
  have made : makePass s
      = ((s.plant.pass (s.setting .skipLimit)).2.foldl (fun t c => if (t.chan c).state = .claiming then t.entered c else t)
          (s.setPlant (s.plant.pass (s.setting .skipLimit)).1), []) := handGrants_permit _ _ h
  have none : s.handed.2 = [] := by rw [handed_eq_makePass, made]
  have first : arbitrate s = s.handed.1 := by rw [arbitrate_handed, none, takeReleases_nil]
  exact ⟨none, first, by rw [first, handed_eq_makePass, made]⟩

/-- A pass that grants nothing and leaves the plant is nothing. -/
theorem arbitrate_of_pass {s : State} (h : s.plant.pass (s.setting .skipLimit) = (s.plant, [])) : arbitrate s = s := by
  have made : makePass s = (s, []) := by
    rw [makePass, h]
    rfl
  rw [arbitrate, made]
  exact takeReleases_nil 8 s

/-- Settles O34: `beginStep_eq` for the step, a pass of a lone claim, and the pass with its grants handed over. -/
theorem stepBegins : Obligations.StepBegins := by
  refine ⟨fun x => ⟨?_, ?_, rfl, stepClaim_eq_zero x⟩, fun c n s r x st lead hr hx hn hst => ?_,
    fun c s k r priority lead hr hk others free below state => ⟨fun fits permit => ?_, fun fits => ?_⟩, fun s => ?_⟩
  · rw [stepClaim]
    cases x.supply <;> rfl
  · rw [stepClaim]
    cases x.supply <;> rfl
  · intro times claim kind t
    have begins := beginStep_eq lead hr hx hn hst
    have units : unitClaim s c st = claim := by
      simp only [unitClaim, claim, times]
      cases isPair s c
      · simp
      · rfl
    have zero : Units.zero = ⟨0, 0, 0⟩ := rfl
    rw [units, zero] at begins
    have permit : (claiming c n st r s).permit = s.permit := modHeads_permit _ _ _
    have plant : t.plant = s.plant := modHeads_plant _ _ _
    have capacity : claim.fits s.plant.capacity = true ↔ claim.hot ≤ s.plant.hotCapacity ∧ claim.steam ≤ 1 ∧ claim.doser ≤ 2 :=
      Units.fits_iff ..
    have pair : isPair t c = isPair s c := isPair_eq (claiming_binding c n st r s c)
    have lodge (some_ : claim ≠ ⟨0, 0, 0⟩) : beginStep c n s = lodgeClaim c kind claim t := by
      exact begins.trans (if_neg some_)
    refine ⟨fun none closed => ?_, fun none asserted => ?_, fun above => ?_, fun some_ hot steam doser => ?_⟩
    · rw [begins, if_pos none, enterRunning_eq, permit, closed]
      rfl
    · rw [begins, if_pos none, enterRunning_eq, permit, asserted, if_pos rfl, takeReleases_nil]
      exact claiming_entered c n st r s
    · have some_ : claim ≠ ⟨0, 0, 0⟩ := fun e => by
        rw [e] at above
        simp at above
      have unfit : ¬claim.fits t.plant.capacity = true := by
        rw [plant, capacity]
        omega
      rw [lodge some_, lodgeClaim, if_neg unfit, ownReason, pair]
    · have fits : claim.fits t.plant.capacity = true := by
        rw [plant, capacity]
        exact ⟨hot, steam, doser⟩
      rw [lodge some_, lodgeClaim, if_pos fits, pair]
      show arbitrate { t with plant := t.plant.setClaim c _ } = _
      rw [plant]
      rfl
  · obtain ⟨-, -, passed⟩ := arbitrate_permit permit
    have claiming : ((s.setPlant (s.plant.grant c)).chan c).state = .claiming := state c (mem_headsOf_self s c)
    rw [passed, Plant.pass_lone_fits _ priority hk others free fits, List.foldl_cons, List.foldl_nil, if_pos claiming,
      entered_setPlant s c _ r hr, Plant.grant_eq hk]
    rfl
  · exact arbitrate_of_pass (Plant.pass_lone_waits priority hk others free below fits)
  · intro x
    refine ⟨arbitrate_handed s, handed_plant s, fun permit => ?_⟩
    obtain ⟨none, first, passed⟩ := arbitrate_permit permit
    exact ⟨none, by rw [first]; exact handed_plant s, passed⟩

end Sys2Proof.Machine
end

section
/-! Runs stop (R84 to R88, R91, R92), the plant goes back (R106), and passes end (R80, R81, R91). -/

namespace Sys2Proof.Machine

open Sys2Proof (Byte Comp Tanker Bay Chan RecipeSlot CargoClass Line Lane Port)

theorem rehearses_eq_false {s : State} {c : Chan} : rehearses s c = false ↔ (s.chan c).rehearsal = none := by
  rw [rehearses, Option.isSome_eq_false_iff, Option.isNone_iff_eq_none]

theorem rehearses_eq_true {s : State} {c : Chan} : rehearses s c = true ↔ (s.chan c).rehearsal ≠ none := Option.isSome_iff_ne_none

/-! ## The stops of a run -/

theorem ownAbortRun_named {r : Request} {n : Byte} {named : Chan} {s : State} (hp : r.payload = [n]) (hn : Names n named)
    (hr : r.port = bayPort (bayOf named)) (fitted : (s.chan named).state ≠ .unfitted) :
    let c := leadOf s named
    ((s.chan c).state = .claiming ∨ (s.chan c).state = .running ∨ (s.chan c).state = .paused →
        ownAbortRun r s = accept [] (stopRun c (sameReason s c .abortedByBay) s))
      ∧ ((s.chan c).state = .idle ∨ (s.chan c).state = .stopping ∨ (s.chan c).state = .fault ∨ (s.chan c).state = .service →
        ownAbortRun r s = refuse .wrongState s) := by
  refine ⟨fun h => ?_, fun h => ?_⟩
  · rcases h with h | h | h <;> simp only [ownAbortRun, hp, nameChannel_own hn hr fitted, h]
  · rcases h with h | h | h | h <;> simp only [ownAbortRun, hp, nameChannel_own hn hr fitted, h]

/-- Settles O35: each stop is `stopRun` with its reasons, under its own condition. -/
theorem runsStop : Obligations.RunsStop := by
  intro named s running c heads live
  refine ⟨fun r n hasked hp hn hr fitted => ?_, fun r st hrun hst => ?_, ?_, fun real state => ?_⟩
  · obtain ⟨stops, other⟩ := ownAbortRun_named (s := s.taking .abortRun r) hp hn hr fitted
    exact ⟨fun h => takeRequest_accepted hasked (stops h), fun h => takeRequest_refused hasked.1 hasked.2 (other h)⟩
  · have guard : guardOut named s = if (s.chan c).state = .running ∧ st.mode = .metered ∧ ¬rehearses s c ∧ st.guard ≤ r.passTimer then
        stopRun c (guardReasons s c) s else s := by
      have run : runOf s (leadOf s named) = some r := hrun
      have step : stepOf s (leadOf s named) = some st := hst
      simp only [guardOut, run, step]
      rfl
    refine (live_of_running running (guardOut named)).trans (congrArg _ (guard.trans ?_))
    simp only [Bool.not_eq_true, rehearses_eq_false]
    rfl
  · exact live_of_running running (pauseOut named)
  · have pin : exec (.headInDrop named) s = .next (headDrop named s) :=
      congrArg Host.Outcome.next (if_neg (by rw [running]; decide))
    have binding : ((setHeadIn named false s).chan named).binding = (s.chan named).binding := by
      rw [setHeadIn, State.modChan_eq, State.chan_setChan_self]
    have drop : headDrop named s = stopRun c (ownReason (setHeadIn named false s) named .headLifted) (setHeadIn named false s) := by
      have lead : leadOf (setHeadIn named false s) named = c := leadOf_eq binding
      rw [headDrop, if_neg (by rw [rehearses_eq_false.2 real]; decide), ← lead]
      rcases state with h | h <;> rw [h]
    rw [pin, drop, ownReason, isPair_eq binding]
    rfl

/-! ## One head stops (R86 to R88) -/

theorem stopHeads_single (x : Chan × Reason) (s : State) : stopHeads [x] s = stopHead s x := rfl

/-- What a head's entry to STOPPING reports of its record (R11, R15). -/
def reportedStop (c : Chan) (why : Reason) (s : State) : State :=
  match (s.chan c).binding with
  | none => s
  | some b =>
    if washingOn (s.comp b.comp) c = true then
      raiseNotice officePort 1 (b.comp.val + 1)
        (s.setComp b.comp
          { s.comp b.comp with
            state := .held, binding := none, cert := none
            hold := some (if why = .abortedByBay then .washAborted else .washFault why) })
    else s

theorem reportedStop_eq (c : Chan) (why : Reason) (s : State) :
    ((s.chan c).binding.elim s fun b => reportStopped b.comp c why s) = reportedStop c why s := by
  unfold reportedStop
  cases (s.chan c).binding <;> rfl

theorem reportedStop_keeps (c : Chan) (why : Reason) (s : State) :
    (reportedStop c why s).channels = s.channels ∧ (reportedStop c why s).bays = s.bays := by
  unfold reportedStop
  cases (s.chan c).binding with
  | none => exact ⟨rfl, rfl⟩
  | some b =>
    dsimp only
    split <;> exact ⟨rfl, rfl⟩

/-- A channel at its entry to STOPPING (R86, R88). -/
def stoppingFrom (x : WashChannel) (time : Nat) (why : Reason) : WashChannel :=
  { x with
    state := .stopping, binding := none, run := none, pauseTimer := 0, pauseDue := false, drainTimer := 0
    drainTime := time, reason := some why }

/-- The state in which a head has entered STOPPING, before the drain-down time is looked at. -/
def stopped (c : Chan) (why : Reason) (s : State) : State :=
  raiseNotice (bayPort (bayOf c)) (if why = .abortedByBay then 2 else 1) (headNumber c)
    ((reportedStop c why s).setChan c (stoppingFrom (s.chan c) (s.setting .drainDownTime) why))

theorem stopHead_eq (c : Chan) (why : Reason) (s : State) :
    stopHead s (c, why) = if s.setting .drainDownTime = 0 then endStopping c (stopped c why s) else stopped c why s := by
  have chan : (reportedStop c why s).chan c = s.chan c := by rw [State.chan, (reportedStop_keeps c why s).1]; rfl
  have raised : (if why = .abortedByBay then
        raiseRunDone c ((reportedStop c why s).setChan c (stoppingFrom (s.chan c) (s.setting .drainDownTime) why))
      else raiseChannelFault c ((reportedStop c why s).setChan c (stoppingFrom (s.chan c) (s.setting .drainDownTime) why)))
      = stopped c why s := by
    unfold stopped
    split <;> rfl
  rw [← raised]
  unfold stopHead
  dsimp only
  rw [reportedStop_eq, State.modChan_eq, chan]
  rfl

theorem chan_stopped (c : Chan) (why : Reason) (s : State) :
    (stopped c why s).chan c = stoppingFrom (s.chan c) (s.setting .drainDownTime) why := by
  rw [stopped, raiseNotice_eq, State.chan_setPort, State.chan_setChan_self]

theorem bay_stopped (c : Chan) (why : Reason) (s : State) (b : Bay) : (stopped c why s).bay b = s.bay b := by
  rw [stopped, raiseNotice_eq, State.bay_setPort, State.bay_setChan, State.bay, (reportedStop_keeps c why s).2]
  rfl

/-! ## The plant goes back (R106) -/

namespace Plant

/-- A pass with no claim waiting is nothing. -/
theorem pass_none {p : Plant} (limit : Nat) (h : ∀ c : Chan, p.claims[c] = none) : p.pass limit = (p, []) := by
  have order : p.passOrder = [] := List.eq_nil_iff_forall_not_mem.2 fun c hc => by
    obtain ⟨k, hk⟩ := claim_of_mem_passOrder hc
    exact nomatch (h c).symm.trans hk
  have grants : p.passGrants = [] := by
    rw [passGrants_unanchored (by rw [order]; exact nofun), order]
    rfl
  simp only [pass, order, grants]
  rfl

end Plant

theorem arbitrate_noneWaiting {s : State} (h : ∀ c : Chan, s.plant.claims[c] = none) : arbitrate s = s :=
  arbitrate_of_pass (Plant.pass_none _ h)

theorem put_none_of_none {α : Type} {n : Nat} {v : Vector (Option α) n} {i : Fin n} (h : v[i] = none) : put v i none = v := by
  rw [← h, put_eq_self]

/-- A channel that holds a grant or waits, and no other that waits, leaves the arbiter with neither. -/
theorem giveBack_alone {c : Chan} {s : State} (h : s.plant.claims[c] = none ∨ s.plant.grants[c] = none)
    (others : ∀ d : Chan, d ≠ c → s.plant.claims[d] = none) :
    giveBack c s = { s with plant := { s.plant with claims := put s.plant.claims c none, grants := put s.plant.grants c none } } := by
  have alone : ∀ d : Chan, (put s.plant.claims c none)[d] = none := fun d => by
    rw [put_get]
    split <;> [rfl; exact others d ‹_›]
  by_cases grant : s.plant.grants[c] = none
  · rw [giveBack_none grant, put_none_of_none grant]
    by_cases claim : s.plant.claims[c] = none
    · rw [put_none_of_none claim, withdrawClaim, claim]
      rfl
    · rw [withdrawClaim_eq claim]
      exact arbitrate_noneWaiting alone
  · have claim := h.resolve_right grant
    rw [giveBack_grant grant, releaseGrant_eq grant, put_none_of_none claim]
    refine arbitrate_noneWaiting fun d => ?_
    have same := alone d
    rwa [put_none_of_none claim] at same

/-- Settles O36: a head's entry to STOPPING in its parts, and the plant given back through the pass that follows. -/
theorem headsStop : Obligations.HeadsStop := by
  refine ⟨fun c why s => ?_, fun c s => ?_⟩
  · intro x held stopping t
    have entry : stopped c why s = t := by
      have same : reportedStop c why s = held := by
        simp only [held, reportedStop]
        rfl
      rw [stopped, same]
      rfl
    have chan : t.chan c = stopping := entry ▸ chan_stopped c why s
    refine ⟨fun h => ?_, fun h other => ?_, fun h abort => ?_, fun rest => rfl⟩
    · rw [stopHeads_single, stopHead_eq, if_neg h, entry]
    · have reason : (t.chan c).reason ≠ some .abortedByBay := by
        rw [chan]
        exact fun e => other (Option.some.inj e)
      rw [stopHeads_single, stopHead_eq, if_pos h, entry, endStopping, if_neg reason, State.modChan_eq, chan]
    · have reason : (t.chan c).reason = some .abortedByBay := by
        rw [chan]
        exact congrArg some abort
      have bay : t.bay (bayOf c) = s.bay (bayOf c) := entry ▸ bay_stopped c why s _
      rw [stopHeads_single, stopHead_eq, if_pos h, entry, endStopping]
      dsimp only
      rw [if_pos reason, enterIdle, oweAttempt]
      simp only [State.modChan_eq, State.modBay_eq, State.chan_setChan_self, State.setChan_setChan, State.bay_setChan, bay, chan]
      rfl
  · intro released
    refine ⟨fun h => ⟨(giveBack_grant h).trans (releaseGrant_eq h), releaseGrant_eq h, releaseGrant_eq h⟩,
      fun h => ⟨giveBack_none h, (takeReleases_none h 8 []).trans (takeReleases_nil 8 s), (takeReleases_none h 8 []).trans (takeReleases_nil 8 s)⟩,
      fun h => withdrawClaim_eq h, fun h => ?_, fun grant claim => ?_, fun grant claim => (giveBack_none grant).trans (withdrawClaim_eq claim),
      fun h others => giveBack_alone h others, fun n rest => ⟨takeReleases_nil n s, fun h => takeReleases_none h n rest, fun h => ?_⟩⟩
    · rw [withdrawClaim, h]
      rfl
    · rw [giveBack_none grant, withdrawClaim, claim]
      rfl
    · rw [takeReleases_grant h, ← handed_eq_makePass]
      rfl

/-! ## The ends of passes (R80, R81, R91) -/

theorem timedPass_iff (s : State) (c : Chan) (st : RecipeStep) :
    timedPass s c st = true ↔ st.mode = .timed ∨ (st.mode = .metered ∧ (s.chan c).rehearsal ≠ none) := by
  rw [← rehearses_eq_true, timedPass]
  cases st.mode <;> simp

/-- Settles O37: each expiry under its condition, and the meter's count case by case. -/
theorem passesEnd : Obligations.PassesEnd := by
  refine ⟨fun named s r st running => ?_, fun c s running => ?_⟩
  · intro c hrun hst
    have run : runOf s (leadOf s named) = some r := hrun
    have step : stepOf s (leadOf s named) = some st := hst
    refine ⟨(live_of_running running (passTimerOut named)).trans (congrArg _ ?_),
      (live_of_running running (runningTimeOut named)).trans (congrArg _ ?_)⟩
    · simp only [passTimerOut, run, step, timedPass_iff]
      exact if_congr (and_congr_right fun _ => and_comm) rfl rfl
    · simp only [runningTimeOut, run, step]
      exact if_congr (and_congr_right fun _ => and_comm) rfl rfl
  · intro n t done
    have pulse : exec (.flowMeterPulse c) s = .next (flowPulse c s) := live_of_running running (flowPulse c)
    refine ⟨fun none => ?_, fun st hst => ⟨fun idle => ?_, fun state mode => ?_⟩⟩
    · rw [pulse, flowPulse, none]
    · have not : ¬((s.chan c).state = .running ∧ st.mode = .metered) := fun e => idle.elim (absurd e.1) (absurd e.2)
      simp only [pulse, flowPulse, hst, if_neg not]
    · have counts : countUp Config.countStop (s.chan c).meter = n := rfl
      have counted : flowPulse c s
          = if rehearses s c ∨ n < st.amount then t
            else if isPair s c then
              if !(s.chan c).headDone && (s.chan (otherHead c)).headDone then endPass (leadOf s c) done else done
            else endPass c t := by
        have both : (s.modChan c fun x => { x with meter := n }).modChan c (fun x => { x with headDone := true }) = done :=
          modChan_modChan ..
        simp only [flowPulse, hst, if_pos (And.intro state mode), counts, both]
        rfl
      have real (h : (s.chan c).rehearsal = none) (enough : st.amount ≤ n) : ¬(rehearses s c = true ∨ n < st.amount) := by
        rw [rehearses_eq_true]
        exact not_or.2 ⟨not_not.2 h, Nat.not_lt.2 enough⟩
      rw [pulse, counted]
      refine ⟨fun h => ?_, fun h enough single => ?_, fun h enough pair first other => ?_, fun h enough pair waits => ?_⟩
      · rw [if_pos (h.imp_left rehearses_eq_true.2)]
      · rw [if_neg (real h enough), single]
        rfl
      · rw [if_neg (real h enough), pair, first, other]
        rfl
      · rw [if_neg (real h enough), if_pos pair, if_neg]
        rcases waits with h | h <;> simp [h]

end Sys2Proof.Machine
end

section
/-! A run's passes, steps and rounds end, and the run is complete (R81, R82, R94). -/

namespace Sys2Proof.Machine

open Sys2Proof (Byte Comp Tanker Bay Chan RecipeSlot CargoClass Line Lane Port)

variable {c : Chan} {s : State} {r : RunContext}

theorem runOf_lead (lead : leadOf s c = c) (hr : (s.chan c).run = some r) : runOf s c = some r := by rw [runOf, lead, hr]

theorem modRun_of_run (f : RunContext → RunContext) (hr : (s.chan c).run = some r) :
    modRun c f s = s.setChan c { s.chan c with run := some (f r) } := by
  rw [modRun, State.modChan_eq, hr]
  rfl

/-- A pass above terminal count ends (R81): the next one starts with one pass less to come. -/
theorem endPass_succ (lead : leadOf s c = c) (hr : (s.chan c).run = some r) {n : Nat} (hn : r.passCounter = n + 1) :
    endPass c s
      = (modHeads (headsOf s c) (fun y => { y with meter := 0, headDone := false }) s).modChan c fun y =>
          { y with run := some { r with passCounter := n, passTimer := 0, runningTime := 0 } } := by
  have counted : endPass c s = startPass c (modRun c (fun r => { r with passCounter := r.passCounter - 1 }) s) := by
    rw [endPass, runOf_lead lead hr]
    exact if_neg (by rw [hn]; exact Nat.succ_ne_zero n)
  have binding : ((modRun c (fun r => { r with passCounter := r.passCounter - 1 }) s).chan c).binding = (s.chan c).binding := by
    rw [modRun, State.modChan_eq, State.chan_setChan_self]
  have heads := headsOf_nodup s c
  have run : ((modHeads (headsOf s c) (fun y => { y with meter := 0, headDone := false }) s).chan c).run = some r := by
    rw [chan_modHeads heads]
    split <;> exact hr
  rw [counted, startPass, headsOf_eq binding, modRun, modRun, ← modChan_modHeads c ?_ heads, modChan_modChan, State.modChan_eq,
    State.modChan_eq, Function.comp_apply, run]
  · simp only [Option.map_some, hn, Nat.add_sub_cancel]
  · exact fun _ => rfl

/-- The last pass of a step ends (R81). -/
theorem endPass_zero (lead : leadOf s c = c) (hr : (s.chan c).run = some r) (hn : r.passCounter = 0) : endPass c s = endStep c s := by
  rw [endPass, runOf_lead lead hr]
  exact if_pos hn

theorem endRound_eq {x : Recipe} (lead : leadOf s c = c) (hr : (s.chan c).run = some r) (hx : s.recipe r.slot = some x) :
    endRound c s
      = if r.rounds + 1 < x.rounds then
          beginStep c 1
            ((s.chan c).binding.elim (s.setChan c { s.chan c with run := some { r with rounds := r.rounds + 1 } }) fun b =>
              reportRounds b.comp c (r.rounds + 1) (s.setChan c { s.chan c with run := some { r with rounds := r.rounds + 1 } }))
        else completeRun c (s.setChan c { s.chan c with run := some { r with rounds := r.rounds + 1 } }) := by
  have recipe : recipeOf s c = some x := by rw [recipeOf, runOf_lead lead hr, Option.bind_some, hx]
  simp only [endRound, runOf_lead lead hr, recipe, modRun_of_run _ hr, State.chan_setChan_self]

/-- One head leaves a complete run (R82): it rests in IDLE, its bay owed an attempt. -/
def headRests (t : State) (h : Chan) : State :=
  raiseNotice (bayPort (bayOf h)) 2 (headNumber h)
    ((t.setChan h { t.chan h with state := .idle, binding := none, rehearsal := none, run := none, reason := none }).setBay (bayOf h)
      { t.bay (bayOf h) with owed := (t.bay (bayOf h)).owed + 1 })

theorem headRests_eq (t : State) (h : Chan) :
    raiseRunDone h (enterIdle h (t.modChan h fun x => { x with binding := none, rehearsal := none, run := none })) = headRests t h := by
  rw [raiseRunDone, headRests, enterIdle, oweAttempt, modChan_modChan, State.modBay_eq, State.modChan_eq]
  rfl

theorem completeRun_eq (c : Chan) (s : State) :
    completeRun c s = (headsOf s c).foldl headRests ((s.chan c).binding.elim s fun b => reportComplete b.comp c s) := by
  simp only [completeRun, headRests_eq]

theorem headsOf_single (h : (s.chan c).binding = none ∨ ∃ b, (s.chan c).binding = some b ∧ b.role = .single) : headsOf s c = [c] := by
  rcases h with h | ⟨⟨comp, role⟩, h, rfl⟩ <;> simp [headsOf, isPair, h]

theorem headsOf_lead {b : ChannelBinding} (h : (s.chan c).binding = some b) (role : b.role = .lead) :
    headsOf s c = [headA (bayOf c), headB (bayOf c)] := by
  obtain ⟨comp, _⟩ := b
  obtain rfl := role
  simp [headsOf, isPair, h]

/-- Settles O38: each end through its equation. -/
theorem stepsRoundsAndRunsEnd : Obligations.StepsRoundsAndRunsEnd := by
  refine ⟨fun c s r lead hr => ⟨fun n hn => endPass_succ lead hr hn, fun hn => ?_⟩, fun c s r x lead hr hx => ?_, fun c s lead => ?_⟩
  · intro t r' x hr' hx
    have ends : endPass c s
        = match runOf t c, recipeOf t c with
          | some r, some x => if r.step < x.steps.length then beginStep c (r.step + 1) t else endRound c t
          | _, _ => t := by
      rw [endPass_zero lead hr hn]
      rfl
    rw [ends, hr', hx]
  · intro t
    have ends := endRound_eq lead hr hx
    refine ⟨fun last => ?_, fun more none => ?_, fun b more bound washing => ?_⟩
    · rw [ends, if_neg (Nat.not_lt.2 last)]
    · rw [ends, if_pos more, none]
      rfl
    · rw [ends, if_pos more, bound, Option.elim_some, reportRounds]
      exact congrArg _ (if_pos washing)
  · intro rest
    have completes : completeRun c s = (headsOf s c).foldl rest ((s.chan c).binding.elim s fun b => reportComplete b.comp c s) :=
      completeRun_eq c s
    refine ⟨fun none => ?_, fun b k bound washing class_ => ?_⟩
    · rw [completes, headsOf_single (.inl none), none]
      rfl
    · intro waiting reported
      have report : reportComplete b.comp c s = reported := by
        rw [reportComplete, if_pos washing, class_]
        rfl
      rw [completes, bound, Option.elim_some, report]
      exact ⟨fun role => by rw [headsOf_single (.inr ⟨b, bound, role⟩)]; rfl, fun role => by rw [headsOf_lead bound role]; rfl⟩

end Sys2Proof.Machine
end

section
/-! The discharge permit and HEAD_IN (R83 to R85). -/

namespace Sys2Proof.Machine

open Sys2Proof (Byte Comp Tanker Bay Chan RecipeSlot CargoClass Line Lane Port)

theorem next_of_running {s t u : State} (running : s.resetPin = false) :
    (Host.Outcome.next (if s.resetPin then t else u) : Result) = .next u := by rw [running]; rfl

/-! ## Entering RUNNING without the permit -/

theorem judgeNoPermit_demand {c : Chan} {s : State} {st : RecipeStep} (hst : stepOf s c = some st) (mode : st.mode = .demand) :
    judgeNoPermit c s
      = (modHeads (headsOf s c) (fun y => { y with state := .paused, pauseTimer := 0, pauseDue := false }) s, []) := by
  simp only [judgeNoPermit, hst, if_pos mode]

theorem judgeNoPermit_faults {c : Chan} {s : State} {st : RecipeStep} (hst : stepOf s c = some st) (mode : st.mode ≠ .demand)
    (drains : st.drain = true) (real : (s.chan c).rehearsal = none) :
    judgeNoPermit c s = (stopHeads ((headsOf s c).map fun h => (h, .dischargeLost)) s, [c]) := by
  simp only [judgeNoPermit, hst, if_neg mode, drains, rehearses_eq_false.2 real]
  rfl

theorem judgeNoPermit_runsOn {c : Chan} {s : State} {st : RecipeStep} (hst : stepOf s c = some st) (mode : st.mode ≠ .demand)
    (h : st.drain = false ∨ (s.chan c).rehearsal ≠ none) : judgeNoPermit c s = (s, []) := by
  have not : (st.drain && !rehearses s c) = false := by
    rcases h with h | h
    · rw [h, Bool.false_and]
    · rw [rehearses_eq_true.2 h, Bool.not_true, Bool.and_false]
  simp only [judgeNoPermit, hst, if_neg mode, not]
  rfl

theorem beginStep_empty_noPermit {c : Chan} {n : Nat} {s : State} {r : RunContext} {x : Recipe} {st : RecipeStep}
    (closed : s.permit = false) (lead : leadOf s c = c) (hr : (s.chan c).run = some r) (hx : s.recipe r.slot = some x) (hn : 1 ≤ n)
    (hst : x.steps[n - 1]? = some st) (empty : stepClaim st = Units.zero) :
    beginStep c n s
      = takeReleases 9 (judgeNoPermit c ((claiming c n st r s).entered c)).2 (judgeNoPermit c ((claiming c n st r s).entered c)).1 := by
  have claim : unitClaim s c st = Units.zero := by
    rw [unitClaim, empty]
    exact ite_self _
  have permit : (claiming c n st r s).permit = false := (modHeads_permit _ _ _).trans closed
  rw [beginStep_eq lead hr hx hn hst, if_pos claim, enterRunning_eq, permit]
  rfl

theorem handed_single_noPermit {c : Chan} {s : State} (closed : s.permit = false) (claims : (s.chan c).state = .claiming)
    (granted : (s.plant.pass (s.setting .skipLimit)).2 = [c]) :
    s.handed = judgeNoPermit c ((s.setPlant (s.plant.pass (s.setting .skipLimit)).1).entered c) := by
  have state : ((s.setPlant (s.plant.pass (s.setting .skipLimit)).1).chan c).state = .claiming := claims
  have permit : ¬(s.setPlant (s.plant.pass (s.setting .skipLimit)).1).permit = true := by
    rw [show (s.setPlant (s.plant.pass (s.setting .skipLimit)).1).permit = false from closed]
    decide
  unfold State.handed
  dsimp only
  rw [granted, List.foldl_cons, List.foldl_nil, if_pos state, if_neg permit, List.nil_append]

/-! ## The permit drops -/

theorem passJustBegun_eq (s : State) (c : Chan) :
    passJustBegun s c
      = (runOf s c).any fun r => (stepOf s c).any fun st =>
          decide (r.passCounter < st.extraPasses ∧ r.passTimer = 0 ∧ r.runningTime = 0)
            && (headsOf s c).all fun h => decide ((s.chan h).meter = 0) := by
  unfold passJustBegun
  cases runOf s c with
  | none => rfl
  | some r => cases stepOf s c <;> rfl

theorem foldl_eq_self {α β : Type} {f : α → β → α} {a : α} (h : ∀ b, f a b = a) (l : List β) : l.foldl f a = a := by
  induction l with
  | nil => rfl
  | cons b l ih => rw [List.foldl_cons, h b, ih]

theorem permitDropOn_eq_self {met : List Chan} {s : State} {c : Chan}
    (h : (s.chan c).state ≠ .running ∨ leadOf s c ≠ c ∨ continuesUnjudged met s c = true) : permitDropOn met s c = s := by
  refine if_neg fun ⟨state, lead, judged⟩ => ?_
  rcases h with h | h | h
  · exact h state
  · exact h lead
  · rw [judged] at h
    exact nomatch h

theorem setHeadIn_binding (c : Chan) (level : Bool) (s : State) (d : Chan) :
    ((setHeadIn c level s).chan d).binding = (s.chan d).binding := by
  rw [setHeadIn, chan_modChan]
  split <;> [(next e => rw [e]); rfl]

/-- HEAD_IN falling in CLAIMING forgets the run (R85). -/
theorem headDrop_claiming {c : Chan} {s : State} (real : (s.chan c).rehearsal = none) (claims : (s.chan c).state = .claiming) :
    headDrop c s = forgetRun (leadOf (setHeadIn c false s) c) (setHeadIn c false s) := by
  rw [headDrop, if_neg (by rw [rehearses_eq_false.2 real]; decide), claims]

/-- HEAD_IN falling in a rehearsal, or in a state that does not look at it, is a level alone (R85). -/
theorem headDrop_level {c : Chan} {s : State}
    (h : (s.chan c).rehearsal ≠ none ∨ (s.chan c).state = .unfitted ∨ (s.chan c).state = .idle ∨ (s.chan c).state = .bound
      ∨ (s.chan c).state = .stopping ∨ (s.chan c).state = .fault ∨ (s.chan c).state = .service) :
    headDrop c s = setHeadIn c false s := by
  rw [headDrop]
  split
  · rfl
  · next real =>
    rcases h.resolve_left (fun e => real (rehearses_eq_true.2 e)) with h | h | h | h | h | h <;> rw [h]

/-- Settles O39: the judgement at the three places where a channel meets the permit, and HEAD_IN by the state of its channel. -/
theorem permitAndHeadIn : Obligations.PermitAndHeadIn := by
  refine ⟨fun c s st hst => ⟨judgeNoPermit_demand hst, judgeNoPermit_faults hst, judgeNoPermit_runsOn hst⟩,
    ⟨fun c n s r x st closed lead hr hx hn hst empty => ?_, fun c s r closed lead hr claims granted => ?_⟩,
    fun order met s running => ?_, fun s running => ?_, fun c s running => ⟨?_, fun h => ?_, fun real claims => ?_⟩⟩
  · intro t
    have entered : (claiming c n st r s).entered c = t := claiming_entered c n st r s
    rw [beginStep_empty_noPermit closed lead hr hx hn hst empty, entered]
  · intro t
    have entered : (s.setPlant (s.plant.pass (s.setting .skipLimit)).1).entered c = t :=
      entered_eq (s := s.setPlant (s.plant.pass (s.setting .skipLimit)).1) hr
    rw [arbitrate_handed, handed_single_noPermit closed claims granted, entered]
  · intro begun unjudged drop
    have judged (t : State) (c : Chan) : unjudged t c = continuesUnjudged met t c := by
      rw [continuesUnjudged, passJustBegun_eq]
    have dropped : drop = permitDropOn met := by
      funext t c
      simp only [drop, judged]
      rfl
    have takes : exec (.dischargePermitDrop ⟨order, met⟩) s = .next (permitDrop ⟨order, met⟩ s) := next_of_running running
    rw [dropped]
    refine ⟨takes, fun unmet => takes.trans (congrArg _ (foldl_eq_self (fun c => permitDropOn_eq_self ?_) _))⟩
    have at_c := unmet c
    rw [judged] at at_c
    exact at_c
  · have takes : exec .dischargePermitReturn s = .next (permitReturn s) := next_of_running running
    refine ⟨permitReturn s, takes, rfl, fun c => ?_⟩
    exact Vector.getElem_ofFn c.isLt
  · exact congrArg Host.Outcome.next (State.modChan_eq ..)
  · have takes : exec (.headInDrop c) s = .next (headDrop c s) := next_of_running running
    rw [takes, headDrop_level h, setHeadIn, State.modChan_eq]
  · have takes : exec (.headInDrop c) s = .next (headDrop c s) := next_of_running running
    have lead : leadOf (setHeadIn c false s) c = leadOf s c := leadOf_eq (setHeadIn_binding c false s c)
    rw [takes, headDrop_claiming real claims, lead, forgetRun, headsOf_eq (setHeadIn_binding c false s (leadOf s c)), setHeadIn,
      State.modChan_eq]

end Sys2Proof.Machine
end

section
/-! Drain-down, CLEAR_FAULT, service mode and the valve lines (R77, R88, R89, R95 to R97). -/

namespace Sys2Proof.Machine

open Sys2Proof (Byte Comp Tanker Bay Chan RecipeSlot CargoClass Line Lane Port)

/-- The office and the channel's own bay may name it (R70, R76). -/
theorem nameChannel_served {n : Byte} {c : Chan} {r : Request} {s : State} (hn : Names n c)
    (hr : r.port = officePort ∨ r.port = bayPort (bayOf c)) (fitted : (s.chan c).state ≠ .unfitted) (k : Chan → Taken) :
    nameChannel r.port n s k = k c := by
  rcases hr with hr | hr
  · rw [nameChannel_of_names hn, hr, foreignChannel_officePort, if_neg fitted]
    rfl
  · exact nameChannel_own hn hr fitted k

theorem enterIdle_eq (c : Chan) (s : State) :
    enterIdle c s
      = (s.setChan c { s.chan c with state := .idle, reason := none }).setBay (bayOf c)
          { s.bay (bayOf c) with owed := (s.bay (bayOf c)).owed + 1 } := by
  rw [enterIdle, oweAttempt, State.modBay_eq, State.modChan_eq]
  rfl

/-- Settles O40: STOPPING ends by its reason, and CLEAR_FAULT enters IDLE. -/
theorem drainDownAndClearFault : Obligations.DrainDownAndClearFault := by
  intro c s running attempt x
  have takes : exec (.drainDownExpiry c) s = .next (drainOut c s) := live_of_running running (drainOut c)
  have ends (state : x.state = .stopping) (time : x.drainTime ≤ x.drainTimer) : drainOut c s = endStopping c s := if_pos ⟨state, time⟩
  refine ⟨fun state time abort => ?_, fun state time fault => ?_, fun h => ?_, fun r n hasked hp hn hr fitted => ⟨fun state => ?_, fun state => ?_⟩⟩
  · rw [takes, ends state time, endStopping, if_pos abort, enterIdle_eq]
    simp only [State.modChan_eq, State.chan_setChan_self, State.setChan_setChan, State.bay_setChan]
    rfl
  · rw [takes, ends state time, endStopping, if_neg fault, State.modChan_eq]
  · rw [takes, drainOut, if_neg]
    rintro ⟨state, time⟩
    exact h.elim (absurd state) (Nat.not_lt.2 time)
  · have idle : ownClearFault r (s.taking .clearFault r) = accept [] (enterIdle c (s.taking .clearFault r)) := by
      simp only [ownClearFault, hp, nameChannel_served (s := s.taking .clearFault r) hn hr fitted]
      exact if_pos state
    refine (takeRequest_accepted hasked idle).trans ?_
    rw [← answering_taking, enterIdle_eq]
    rfl
  · have wrong : ownClearFault r (s.taking .clearFault r) = refuse .wrongState (s.taking .clearFault r) := by
      simp only [ownClearFault, hp, nameChannel_served (s := s.taking .clearFault r) hn hr fitted]
      exact if_neg state
    exact takeRequest_refused hasked.1 hasked.2 wrong

/-! ## Service mode -/

/-- A request that is served in one state of its channel and refused WRONG_STATE in every other. -/
theorem takeRequest_inState {k : RequestKind} {r : Request} {s t : State} {p : Prop} [Decidable p] {owner : State → Taken}
    (hasked : Asked s k r) (ho : owner (s.taking k r) = if p then accept [] t else refuse .wrongState (s.taking k r)) :
    takeRequest k r owner s = .next (if p then t.answering k r ⟨.ok, []⟩ else s.answered k r .wrongState []) := by
  by_cases h : p
  · rw [if_pos h] at ho ⊢
    exact takeRequest_accepted hasked ho
  · rw [if_neg h] at ho ⊢
    exact takeRequest_refused hasked.1 hasked.2 ho

theorem serviceLatch_lines {c : Chan} {r : Request} {s : State} {n : Byte} (l : Lines) (hn : Names n c)
    (hr : r.port = officePort ∨ r.port = bayPort (bayOf c)) (fitted : (s.chan c).state ≠ .unfitted)
    (hp : r.payload = [n, flag l.cold, flag l.hot, flag l.steam, flag l.dose, flag l.drain]) :
    ownServiceLatch r s = accept [] (s.setChan c { s.chan c with latch := l }) := by
  simp only [ownServiceLatch, hp, nameChannel_served hn hr fitted, flag?_flag, State.modChan_eq]

theorem serviceLatch_badArg {c : Chan} {r : Request} {s : State} {n : Byte} {lines : List Byte} (hn : Names n c)
    (hr : r.port = officePort ∨ r.port = bayPort (bayOf c)) (fitted : (s.chan c).state ≠ .unfitted) (hp : r.payload = n :: lines)
    (five : lines.length = 5) (bad : ∃ b ∈ lines, 1 < b.toNat) : ownServiceLatch r s = refuse .badArg s := by
  match lines, five with
  | [a, b, d, e, f], _ =>
    simp only [ownServiceLatch, hp, nameChannel_served hn hr fitted]
    split
    · next ha hb hd he hf =>
      obtain ⟨x, hx, big⟩ := bad
      have small : ∀ y ∈ [a, b, d, e, f], ¬1 < y.toNat := by
        simp only [List.forall_mem_cons]
        exact ⟨flag?_le ha, flag?_le hb, flag?_le hd, flag?_le he, flag?_le hf, nofun⟩
      exact absurd big (small x hx)
    · rfl

/-- SERVICE_CLAIM after its naming checks (R97). -/
theorem ownServiceClaim_eq {c : Chan} {r : Request} {s : State} {n h t d : Byte} (hn : Names n c)
    (hr : r.port = officePort ∨ r.port = bayPort (bayOf c)) (fitted : (s.chan c).state ≠ .unfitted) (hp : r.payload = [n, h, t, d]) :
    ownServiceClaim r s
      = if ¬(h.toNat ≤ 8 ∧ t.toNat ≤ 1 ∧ d.toNat ≤ 2 ∧ ¬(h.toNat = 0 ∧ t.toNat = 0 ∧ d.toNat = 0)) then refuse .badArg s
        else if (s.chan c).state ≠ .service then refuse .wrongState s
        else if s.plant.claims[c] ≠ none ∨ s.plant.grants[c] ≠ none then refuse .busy s
        else if ¬(h.toNat ≤ s.plant.hotCapacity ∧ t.toNat ≤ 1 ∧ d.toNat ≤ 2) then refuse .unfit s
        else accept [] (lodgeClaim c .service ⟨h.toNat, t.toNat, d.toNat⟩ s) := by
  have ranged : (!Units.fits ⟨h.toNat, t.toNat, d.toNat⟩ ⟨8, 1, 2⟩ || decide ((⟨h.toNat, t.toNat, d.toNat⟩ : Units) = Units.zero)) = true
      ↔ ¬(h.toNat ≤ 8 ∧ t.toNat ≤ 1 ∧ d.toNat ≤ 2 ∧ ¬(h.toNat = 0 ∧ t.toNat = 0 ∧ d.toNat = 0)) := by
    rw [Bool.or_eq_true, Bool.not_eq_true', ← Bool.not_eq_true, Units.fits_iff, decide_eq_true_eq, Units.zero, Units.mk.injEq]
    dsimp only
    tauto
  have holds : ((s.plant.claims[c]).isSome || (s.plant.grants[c]).isSome) = true
      ↔ s.plant.claims[c] ≠ none ∨ s.plant.grants[c] ≠ none := by
    rw [Bool.or_eq_true, Option.isSome_iff_ne_none, Option.isSome_iff_ne_none]
  have unfit : (!Units.fits ⟨h.toNat, t.toNat, d.toNat⟩ s.plant.capacity) = true
      ↔ ¬(h.toNat ≤ s.plant.hotCapacity ∧ t.toNat ≤ 1 ∧ d.toNat ≤ 2) := by
    rw [Bool.not_eq_true', ← Bool.not_eq_true, Units.fits_iff]
    rfl
  simp only [ownServiceClaim, hp, nameChannel_served hn hr fitted, ranged, holds, unfit]

/-- Settles O41: each request of service mode after the naming checks. -/
theorem service : Obligations.Service := by
  refine ⟨fun r s n c hn hr fitted => ⟨fun hasked hp => ?_, fun l hasked hp => ?_, fun lines hasked hp five bad => ?_,
    fun hasked hp => ?_, fun hasked hp => ?_⟩, fun r s n h t d c hasked hp hn hr fitted => ?_⟩
  · have owner : ownServiceEnter r (s.taking .serviceEnter r)
        = if (s.chan c).state = .idle then
            accept [] ((s.taking .serviceEnter r).setChan c { s.chan c with state := .service })
          else refuse .wrongState (s.taking .serviceEnter r) := by
      simp only [ownServiceEnter, hp, nameChannel_served (s := s.taking .serviceEnter r) hn hr fitted, State.modChan_eq]
      rfl
    refine (takeRequest_inState hasked owner).trans ?_
    rw [← answering_taking s .serviceEnter r .ok]
    rfl
  · refine (takeRequest_accepted hasked (serviceLatch_lines (s := s.taking .serviceLatch r) l hn hr fitted hp)).trans ?_
    rw [← answering_taking]
    rfl
  · exact takeRequest_refused hasked.1 hasked.2 (serviceLatch_badArg (s := s.taking .serviceLatch r) hn hr fitted hp five bad)
  · have owner : ownServiceRelease r (s.taking .serviceRelease r)
        = if (s.chan c).state = .service then accept [] (giveBack c (s.taking .serviceRelease r))
          else refuse .wrongState (s.taking .serviceRelease r) := by
      simp only [ownServiceRelease, hp, nameChannel_served (s := s.taking .serviceRelease r) hn hr fitted]
      rfl
    exact takeRequest_inState hasked owner
  · have owner : ownServiceExit r (s.taking .serviceExit r)
        = if (s.chan c).state = .service then accept [] (giveBack c (enterIdle c (s.taking .serviceExit r)))
          else refuse .wrongState (s.taking .serviceExit r) := by
      simp only [ownServiceExit, hp, nameChannel_served (s := s.taking .serviceExit r) hn hr fitted]
      rfl
    refine (takeRequest_inState hasked owner).trans ?_
    rw [enterIdle_eq]
    rfl
  · intro ranged holds u
    have owner := ownServiceClaim_eq (s := u) hn hr fitted hp
    have refused {x : ResultCode} (h : ownServiceClaim r u = refuse x u) :
        exec (.serviceClaim r) s = .next (s.answered .serviceClaim r x []) := takeRequest_refused hasked.1 hasked.2 h
    refine ⟨fun out => ?_, fun within state => ?_, fun within state held => ?_, fun within state free above => ?_,
      fun within state free fits => ?_⟩
    · exact refused (owner.trans (if_pos out))
    · exact refused (owner.trans ((if_neg (not_not.2 within)).trans (if_pos state)))
    · exact refused (owner.trans ((if_neg (not_not.2 within)).trans ((if_neg (not_not.2 state)).trans (if_pos held))))
    · refine refused (owner.trans ((if_neg (not_not.2 within)).trans ((if_neg (not_not.2 state)).trans ((if_neg free).trans (if_pos ?_)))))
      exact fun e => Nat.not_lt.2 e.1 above
    · have ⟨_, steam, doser, _⟩ := within
      have accepted : ownServiceClaim r u = accept [] (lodgeClaim c .service ⟨h.toNat, t.toNat, d.toNat⟩ u) :=
        owner.trans ((if_neg (not_not.2 within)).trans ((if_neg (not_not.2 state)).trans ((if_neg free).trans
          (if_neg (not_not.2 ⟨fits, steam, doser⟩)))))
      have capacity : Units.fits ⟨h.toNat, t.toNat, d.toNat⟩ u.plant.capacity = true := (Units.fits_iff ..).2 ⟨fits, steam, doser⟩
      refine (takeRequest_accepted hasked accepted).trans ?_
      rw [lodgeClaim, if_pos capacity]
      rfl

/-! ## The valve lines -/

/-- Settles O42: the lines by the channel's state. -/
theorem valveLinesOfState : Obligations.ValveLines := by
  intro c s running x closed grant
  have lines : Machine.valveLines s c
      = match x.state with
        | .running =>
          if x.rehearsal.isSome then closed
          else (stepOf s c).elim closed fun st => runningLines st (isPair s c && decide (st.mode = .metered) && x.headDone)
        | .stopping => if x.rehearsal.isSome then closed else { closed with drain := s.permit }
        | .service =>
          { cold := x.latch.cold
            hot := x.latch.hot && decide (0 < grant.hot)
            steam := x.latch.steam && decide (0 < grant.steam)
            dose := x.latch.dose && decide (0 < grant.doser)
            drain := x.latch.drain }
        | .unfitted | .idle | .bound | .claiming | .paused | .fault => closed := by
    unfold Machine.valveLines
    rw [running]
    rfl
  refine ⟨fun state => ?_, fun rehearsal state => ?_, fun real state => ?_, fun state => ?_, fun st state real hst => ?_⟩
  · rw [lines]
    rcases state with h | h | h | h | h | h <;> rw [h]
  · rw [lines]
    have some_ : x.rehearsal.isSome = true := Option.isSome_iff_ne_none.2 rehearsal
    rcases state with h | h <;> rw [h] <;> exact if_pos some_
  · rw [lines, state, real]
    rfl
  · rw [lines, state]
    simp only [Nat.pos_iff_ne_zero]
  · intro waits
    have waiting : (isPair s c && decide (st.mode = .metered) && x.headDone) = decide waits := by
      simp [waits, Bool.decide_and, Bool.and_assoc]
    rw [lines, state, real, hst]
    show runningLines st (isPair s c && decide (st.mode = .metered) && x.headDone) = _
    rw [waiting, runningLines]
    simp [Bool.decide_and, decide_not]

end Sys2Proof.Machine
end

section
/-! The arbiter's settings (R103, R107, R109 to R112). -/

namespace Sys2Proof.Machine

open Sys2Proof (Byte Comp Tanker Bay Chan RecipeSlot CargoClass Line Lane Port)

theorem scheme?_code (x : Scheme) : scheme? (byte x.code) = some x := by cases x <;> rfl

theorem scheme?_eq_none {n : Byte} (one : n ≠ 1) (two : n ≠ 2) : scheme? n = none := by rw [scheme?, if_neg one, if_neg two]

namespace Plant

theorem passOrder_noneWaiting {p : Plant} (h : ∀ c : Chan, p.claims[c] = none) : p.passOrder = [] :=
  List.eq_nil_iff_forall_not_mem.2 fun c hc => by
    obtain ⟨k, hk⟩ := claim_of_mem_passOrder hc
    exact nomatch (h c).symm.trans hk

end Plant

theorem changeHotCapacity_noneWaiting {n : Nat} {s : State} (h : NoneWaiting s) :
    changeHotCapacity n s = s.setPlant { s.plant with hotCapacity := n } := by
  rw [changeHotCapacity, droppedClaims, Plant.passOrder_noneWaiting h, List.filter_nil, List.foldl_nil]
  exact arbitrate_noneWaiting h

/-- SET_HOT_CAPACITY by its operand (R103). -/
theorem ownSetHotCapacity_eq {r : Request} {n : Byte} (hp : r.payload = [n]) (s : State) :
    ownSetHotCapacity r s
      = if ¬(1 ≤ n.toNat ∧ n.toNat ≤ 8) then refuse .badArg s
        else if n.toNat < s.plant.granted.hot then refuse .inUse s
        else accept [byte (droppedClaims s.plant n.toNat).length] (changeHotCapacity n.toNat s) := by
  simp only [ownSetHotCapacity, hp]

/-- Settles O43: the three requests by their checks in order, and the refresh. -/
theorem arbiterSettings : Obligations.ArbiterSettings := by
  refine ⟨⟨fun r s n a b hasked hp => ⟨fun hn => ?_, fun c hn => ⟨fun unfitted => ?_, fun fitted => ?_⟩⟩,
    fun r s n hasked hp => ⟨fun one two => ?_, fun x hx => ⟨fun same => ?_, fun other => ?_⟩⟩⟩,
    fun r s n hasked hp => ⟨fun out => ?_, fun low high used => ?_, fun low high free => ?_⟩, fun s running => ?_⟩
  · refine takeRequest_refused hasked.1 hasked.2 ?_
    simp only [ownSetTokenAllowance, hp, index?_of_namesNone hn]
  · refine takeRequest_refused hasked.1 hasked.2 ?_
    simp only [ownSetTokenAllowance, hp, index?_of_names hn]
    exact if_pos unfitted
  · intro v
    have owner : ownSetTokenAllowance r (s.taking .setTokenAllowance r)
        = accept [] ((s.taking .setTokenAllowance r).setPlant { s.plant with tokens := put s.plant.tokens c ⟨v, v⟩ }) := by
      simp only [ownSetTokenAllowance, hp, index?_of_names hn]
      exact if_neg fitted
    refine (takeRequest_accepted hasked owner).trans ?_
    rw [← answering_taking]
    rfl
  · refine takeRequest_refused hasked.1 hasked.2 ?_
    simp only [ownSetPriorityScheme, hp, scheme?_eq_none one two]
  · have owner : ownSetPriorityScheme r (s.taking .setPriorityScheme r) = accept [] (s.taking .setPriorityScheme r) := by
      simp only [ownSetPriorityScheme, hp, hx, scheme?_code]
      exact if_pos same
    refine (takeRequest_accepted hasked owner).trans ?_
    rw [← answering_taking]
  · have owner : ownSetPriorityScheme r (s.taking .setPriorityScheme r)
        = accept [] ((s.taking .setPriorityScheme r).setPlant { s.plant with scheme := x, priority := Plant.startOrder }) := by
      simp only [ownSetPriorityScheme, hp, hx, scheme?_code]
      exact if_neg other
    refine (takeRequest_accepted hasked owner).trans ?_
    rw [← answering_taking]
    rfl
  · refine takeRequest_refused hasked.1 hasked.2 ((ownSetHotCapacity_eq hp _).trans (if_pos ?_))
    omega
  · refine takeRequest_refused hasked.1 hasked.2 ((ownSetHotCapacity_eq hp _).trans ((if_neg ?_).trans (if_pos used)))
    exact not_not.2 ⟨low, high⟩
  · intro dropped drop u
    have owner : ownSetHotCapacity r u = accept [byte dropped.length] (changeHotCapacity n.toNat u) :=
      (ownSetHotCapacity_eq hp u).trans ((if_neg (not_not.2 ⟨low, high⟩)).trans (if_neg (Nat.not_lt.2 free)))
    have takes := takeRequest_accepted hasked owner
    have drops : drop = dropClaim := rfl
    rw [drops]
    refine ⟨takes, fun none => takes.trans ?_⟩
    have empty : dropped = [] := by simp only [dropped, Plant.passOrder_noneWaiting none, List.filter_nil]
    rw [changeHotCapacity_noneWaiting (s := u) none, empty, ← answering_taking]
    rfl
  · intro tokens t
    have takes : exec .refresh s = .next (refreshOut s) := live_of_running running refreshOut
    have due (h : s.plant.refreshDue = true) : exec .refresh s = .next (arbitrate t) :=
      takes.trans (congrArg _ (if_pos h))
    refine ⟨fun h => takes.trans (congrArg _ (if_neg ?_)), due, fun h none => (due h).trans (congrArg _ (arbitrate_noneWaiting none))⟩
    rw [h]
    decide

end Sys2Proof.Machine
end

section
/-! The clock's ticks (R13, R108, R109, R154, R157). -/

namespace Sys2Proof.Machine

open Sys2Proof (Byte Comp Tanker Bay Chan RecipeSlot CargoClass Line Lane Port)

/-! ## The minute tick -/

/-- A CLEARED record whose certificate's expiry is reached (R13). -/
def ExpiresIn (s : State) (i : Comp) : Prop :=
  (s.comp i).state = .cleared ∧ ∃ x : Certificate, (s.comp i).cert = some x ∧ minuteReached x.expiry s.clock.minute = true

/-- A record that its certificate's expiry has HELD. -/
def CompartmentRecord.lapsed (r : CompartmentRecord) : CompartmentRecord :=
  { r with state := .held, hold := some .certExpired, binding := none, cert := none }

theorem expiresIn_iff (s : State) (i : Comp) :
    ((s.comp i).state = .cleared ∧ ((s.comp i).cert.any fun c => minuteReached c.expiry s.clock.minute) = true) ↔ ExpiresIn s i := by
  rw [ExpiresIn, Option.any_eq_true]

theorem examineExpiry_expired {s : State} {i : Comp} (h : ExpiresIn s i) :
    examineExpiry i s
      = raiseNotice officePort 1 (i.val + 1) ((raiseNotice officePort 2 (i.val + 1) s).setComp i (s.comp i).lapsed) := by
  rw [examineExpiry]
  exact if_pos ((expiresIn_iff s i).2 h)

theorem examineExpiry_other {s : State} {i : Comp} (h : ¬ExpiresIn s i) : examineExpiry i s = s := by
  rw [examineExpiry]
  exact if_neg fun e => h ((expiresIn_iff s i).1 e)

theorem examineExpiry_fields (s : State) (i : Comp) :
    examineExpiry i s = { s with comps := (examineExpiry i s).comps, ports := (examineExpiry i s).ports } := by
  by_cases h : ExpiresIn s i
  · rw [examineExpiry_expired h]
    rfl
  · rw [examineExpiry_other h]

theorem foldl_examineExpiry_fields (l : List Comp) (s : State) :
    l.foldl (fun t i => examineExpiry i t) s
      = { s with
          comps := (l.foldl (fun t i => examineExpiry i t) s).comps, ports := (l.foldl (fun t i => examineExpiry i t) s).ports } := by
  induction l generalizing s with
  | nil => rfl
  | cons i l ih =>
    rw [List.foldl_cons, ih (examineExpiry i s), examineExpiry_fields s i]

theorem clock_examineExpiry (s : State) (i : Comp) : (examineExpiry i s).clock = s.clock := by rw [examineExpiry_fields]

theorem comp_examineExpiry_ne {s : State} {i j : Comp} (h : j ≠ i) : (examineExpiry i s).comp j = s.comp j := by
  by_cases e : ExpiresIn s i
  · rw [examineExpiry_expired e, raiseNotice_eq, State.comp_setPort, State.comp_setComp, if_neg h, raiseNotice_eq, State.comp_setPort]
  · rw [examineExpiry_other e]

theorem comp_examineExpiry_expired {s : State} {i : Comp} (h : ExpiresIn s i) : (examineExpiry i s).comp i = (s.comp i).lapsed := by
  rw [examineExpiry_expired h, raiseNotice_eq, State.comp_setPort, State.comp_setComp, if_pos rfl]

/-- Examining one record leaves the others to expire or not as they would. -/
theorem expiresIn_examineExpiry {s : State} {i j : Comp} (h : j ≠ i) : ExpiresIn (examineExpiry i s) j ↔ ExpiresIn s j := by
  rw [ExpiresIn, comp_examineExpiry_ne h, clock_examineExpiry]
  rfl

theorem comp_foldl_examineExpiry {l : List Comp} (hl : l.Nodup) (s : State) (j : Comp) :
    (j ∈ l → ExpiresIn s j → (l.foldl (fun t i => examineExpiry i t) s).comp j = (s.comp j).lapsed)
      ∧ (j ∉ l ∨ ¬ExpiresIn s j → (l.foldl (fun t i => examineExpiry i t) s).comp j = s.comp j) := by
  induction l generalizing s with
  | nil => exact ⟨nofun, fun _ => rfl⟩
  | cons i l ih =>
    obtain ⟨hi, hl⟩ := List.nodup_cons.1 hl
    obtain ⟨lapses, stays⟩ := ih hl (examineExpiry i s)
    rw [List.foldl_cons]
    by_cases hj : j = i
    · subst hj
      refine ⟨fun _ h => (stays (.inl hi)).trans (comp_examineExpiry_expired h), fun h => (stays (.inl hi)).trans ?_⟩
      rw [examineExpiry_other (h.resolve_left fun out => out List.mem_cons_self)]
    · rw [expiresIn_examineExpiry hj, comp_examineExpiry_ne hj] at lapses stays
      rw [List.mem_cons, or_iff_right hj]
      exact ⟨lapses, stays⟩

theorem officeRaised_examineExpiry (s : State) (i : Comp) : OfficeRaised s (examineExpiry i s) := by
  by_cases h : ExpiresIn s i
  · rw [examineExpiry_expired h]
    exact (((OfficeRaised.refl s).raise 2 _).trans (.of_ports rfl)).raise 1 _
  · rw [examineExpiry_other h]
    exact .refl s

theorem mem_officeFlags_examineExpiry (s : State) (i : Comp) (n : Notice) :
    n ∈ (examineExpiry i s).officeFlags ↔ n ∈ s.officeFlags ∨ ExpiresIn s i ∧ (n = ⟨1, i.val + 1⟩ ∨ n = ⟨2, i.val + 1⟩) := by
  by_cases h : ExpiresIn s i
  · have raised (u : State) : (u.setComp i (s.comp i).lapsed).officeFlags = u.officeFlags := rfl
    rw [examineExpiry_expired h, mem_officeFlags_raise, raised, mem_officeFlags_raise]
    tauto
  · rw [examineExpiry_other h]
    tauto

theorem mem_officeFlags_foldl_examineExpiry {l : List Comp} (hl : l.Nodup) (s : State) (n : Notice) :
    n ∈ (l.foldl (fun t i => examineExpiry i t) s).officeFlags
      ↔ n ∈ s.officeFlags ∨ ∃ i ∈ l, ExpiresIn s i ∧ (n = ⟨1, i.val + 1⟩ ∨ n = ⟨2, i.val + 1⟩) := by
  induction l generalizing s with
  | nil => simp
  | cons i l ih =>
    obtain ⟨hi, hl⟩ := List.nodup_cons.1 hl
    have later : (∃ j ∈ l, ExpiresIn (examineExpiry i s) j ∧ (n = ⟨1, j.val + 1⟩ ∨ n = ⟨2, j.val + 1⟩))
        ↔ ∃ j ∈ l, ExpiresIn s j ∧ (n = ⟨1, j.val + 1⟩ ∨ n = ⟨2, j.val + 1⟩) :=
      exists_congr fun j => and_congr_right fun hj => by
        rw [expiresIn_examineExpiry (ne_of_mem_of_not_mem hj hi)]
    rw [List.foldl_cons, ih hl, mem_officeFlags_examineExpiry, later, or_assoc]
    simp only [List.exists_mem_cons_iff]

/-- The minute is over: the second count wraps and the minute count rises (R154). -/
def State.nextMinute (s : State) : State :=
  { s with clock := { s.clock with second := 0, minute := (s.clock.minute + 1) % 16777216, minuteDue := false } }

theorem takeMinute_fields (s : State) :
    takeMinute s = { s.nextMinute with comps := (takeMinute s).comps, ports := (takeMinute s).ports } := by
  unfold takeMinute
  generalize List.finRange 96 = l
  exact foldl_examineExpiry_fields l s.nextMinute

theorem exec_minuteTick_due {s : State} (running : s.resetPin = false) (due : s.clock.minuteDue = true) :
    exec .minuteTick s = .next (takeMinute s) :=
  (live_of_running running minuteOut).trans (congrArg _ (if_pos due))

/-- Settles O47: the examination of the records one after the other, each by its own certificate. -/
theorem minuteTick : Obligations.MinuteTick := by
  intro s running
  refine ⟨fun h => (live_of_running running minuteOut).trans (congrArg _ (if_neg ?_)), fun due => ?_⟩
  · rw [h]
    decide
  · intro minute expired
    have same : ∀ i, ExpiresIn s.nextMinute i ↔ expired i := fun i => Iff.rfl
    have nodup := List.nodup_finRange 96
    have raised : OfficeRaised s (takeMinute s) :=
      (OfficeRaised.of_ports (t := s.nextMinute) rfl).trans (.foldl officeRaised_examineExpiry (List.finRange 96) s.nextMinute)
    refine ⟨takeMinute s, exec_minuteTick_due running due, takeMinute_fields s, fun i => ?_, fun q hq => ?_, ?_, fun n => ?_⟩
    · obtain ⟨lapses, stays⟩ := comp_foldl_examineExpiry nodup s.nextMinute i
      rw [same] at lapses stays
      exact ⟨lapses (List.mem_finRange i), fun h => stays (.inr h)⟩
    · rw [raised q, if_neg hq]
    · exact raised officePort
    · refine (mem_officeFlags_foldl_examineExpiry nodup s.nextMinute n).trans (or_congr_right (exists_congr fun i => ?_))
      rw [same]
      exact and_iff_right (List.mem_finRange i)

/-! ## The second tick -/

theorem lane_countSecond (s : State) (l : Lane) : (countSecond s).lane l = tickLane s l := by simp [countSecond, State.lane]

theorem chan_countSecond (s : State) (c : Chan) : (countSecond s).chan c = tickChannel s c := by simp [countSecond, State.chan]

theorem tickRun_eq (mode : StepMode) (r : RunContext) :
    tickRun mode r
      = if mode = .demand then { r with runningTime := countUp 3600 r.runningTime }
        else { r with passTimer := countUp 5000 r.passTimer } := by cases mode <;> rfl

theorem tickChannel_running {s : State} {c : Chan} (h : (s.chan c).state = .running) :
    tickChannel s c = { s.chan c with run := (s.chan c).run.map fun r => (stepOf s c).elim r fun st => tickRun st.mode r } := by
  unfold tickChannel
  generalize s.chan c = x at h ⊢
  obtain ⟨state, _⟩ := x
  obtain rfl : state = .running := h
  rfl

theorem tickChannel_paused {s : State} {c : Chan} (h : (s.chan c).state = .paused) :
    tickChannel s c
      = if (s.chan c).run.isSome then
          { s.chan c with
            pauseTimer := countUp 1800 (s.chan c).pauseTimer
            pauseDue := decide (s.setting .pauseLimit ≤ countUp 1800 (s.chan c).pauseTimer) }
        else s.chan c := by
  unfold tickChannel
  generalize s.chan c = x at h ⊢
  obtain ⟨state, _⟩ := x
  obtain rfl : state = .paused := h
  rfl

theorem tickChannel_stopping {s : State} {c : Chan} (h : (s.chan c).state = .stopping) :
    tickChannel s c = { s.chan c with drainTimer := countUp 120 (s.chan c).drainTimer } := by
  unfold tickChannel
  generalize s.chan c = x at h ⊢
  obtain ⟨state, _⟩ := x
  obtain rfl : state = .stopping := h
  rfl

theorem tickChannel_other {s : State} {c : Chan} (running : (s.chan c).state ≠ .running) (paused : (s.chan c).state ≠ .paused)
    (stopping : (s.chan c).state ≠ .stopping) : tickChannel s c = s.chan c := by
  unfold tickChannel
  dsimp only
  split <;> [exact absurd ‹_› running; exact absurd ‹_› paused; exact absurd ‹_› stopping; rfl; rfl; rfl; rfl; rfl; rfl]

/-- A channel's record with its run as it is. -/
theorem WashChannel.with_run {x : WashChannel} {o : Option RunContext} (h : x.run = o) : { x with run := o } = x := by rw [← h]

/-- What the tick counts is what the statements say it counts (R154). -/
theorem secondCounted_countSecond (s : State) : SecondCounted s (countSecond s) := by
  refine ⟨fun p => by simp [countSecond, State.port, Config.countStop], fun l => ?_, fun c => ?_⟩
  · rw [lane_countSecond]
    rfl
  · intro x
    rw [chan_countSecond]
    refine ⟨tickChannel_other, tickChannel_stopping, fun state none => ?_,
      fun r hr => ⟨fun state => ?_, fun state none => ?_, fun st state hst => ?_⟩⟩
    · have run : (s.chan c).run = Option.none := none
      rcases state with h | h
      · rw [tickChannel_running h, run, Option.map_none]
        exact WashChannel.with_run run
      · rw [tickChannel_paused h, run]
        rfl
    · rw [tickChannel_paused state, if_pos (Option.isSome_of_eq_some hr)]
    · rw [tickChannel_running state, show (s.chan c).run = some r from hr, none]
      exact WashChannel.with_run hr
    · rw [tickChannel_running state, show (s.chan c).run = some r from hr, hst, Option.map_some, Option.elim_some, tickRun_eq]

theorem Clock.tick_eq (c : Clock) :
    c.tick = if c.second < 59 then { c with period := 0, second := c.second + 1 } else { c with period := 0, minuteDue := true } := by
  rw [Clock.tick]
  exact if_congr (by rw [Config.secondsPerMinute]; omega) rfl rfl

namespace Plant

theorem tokens_chargeTokens (p : Plant) (charge : Vector Nat 8) (c : Chan) :
    (p.chargeTokens charge).tokens[c]
      = if (p.tokens[c]).allowance = 0 then p.tokens[c]
        else { p.tokens[c] with remaining := (p.tokens[c]).remaining - charge[c] } := by simp [chargeTokens]

end Plant

theorem tickCharges_get (s : State) (c : Chan) : (tickCharges s)[c] = tokenCharge s c := by simp [tickCharges]

/-- A second tick that finds no minute tick due and takes no refresh first. -/
theorem takeSecond_eq {first : Bool} {s : State} (due : s.clock.minuteDue = false)
    (h : first = false ∨ (countSecond s).plant.refreshDue = false) :
    takeSecond first s
      = { (countSecond s).setPlant ((countSecond s).plant.chargeTokens (tickCharges s)) with clock := s.clock.tick } := by
  have last : (first && (countSecond s).plant.refreshDue) = false := by
    rcases h with h | h
    · rw [h, Bool.false_and]
    · rw [h, Bool.and_false]
  simp only [takeSecond, due, Bool.false_eq_true, if_false, last]

/-- A second tick that takes a refresh before it charges. -/
theorem takeSecond_refreshFirst {s : State} (due : s.clock.minuteDue = false) (h : (countSecond s).plant.refreshDue = true) :
    takeSecond true s
      = { (takeRefresh (countSecond s)).setPlant ((takeRefresh (countSecond s)).plant.chargeTokens (tickCharges s)) with
          clock := s.clock.tick } := by
  simp only [takeSecond, due, Bool.false_eq_true, if_false, h, Bool.and_self, if_true]

theorem takeSecond_minuteDue {first : Bool} {s : State} (due : s.clock.minuteDue = true) :
    takeSecond first s = takeSecond first (takeMinute s) := by
  have after : (takeMinute s).clock.minuteDue = false := by rw [takeMinute_fields]; rfl
  simp only [takeSecond, due, after, Bool.false_eq_true, if_false, if_true]

/-! ## The charge (R108) -/

theorem tokenCharge_running (s : State) (c : Chan) (state : (s.chan c).state = .running) :
    tokenCharge s c
      = match (s.chan c).binding with
        | some ⟨_, .single⟩ => (if (valveLines s c).hot = true then 1 else 0) * (s.plant.grantUnits c).hot
        | some ⟨_, .lead⟩ =>
          ((stepOf s c).elim 0 fun st => st.hotUnits)
            * ((if (valveLines s (headA (bayOf c))).hot = true then 1 else 0)
              + if (valveLines s (headB (bayOf c))).hot = true then 1 else 0)
        | some ⟨_, .partner⟩ | none => 0 := by
  unfold tokenCharge
  dsimp only
  generalize (s.chan c).state = x at state
  subst state
  rfl

theorem tokenCharge_service (s : State) (c : Chan) (state : (s.chan c).state = .service) :
    tokenCharge s c = (if (valveLines s c).hot = true then 1 else 0) * (s.plant.grantUnits c).hot := by
  unfold tokenCharge
  dsimp only
  generalize (s.chan c).state = x at state
  subst state
  rfl

theorem tokenCharge_other (s : State) (c : Chan) (running : (s.chan c).state ≠ .running) (service : (s.chan c).state ≠ .service) :
    tokenCharge s c = 0 := by
  unfold tokenCharge
  dsimp only
  split <;> [exact absurd ‹_› running; exact absurd ‹_› service; rfl; rfl; rfl; rfl; rfl; rfl; rfl]

/-- Settles O46: the charge by state and role, and the tick in its two orders of charge and refresh. -/
theorem secondTick : Obligations.SecondTick := by
  refine ⟨fun c s => ?_, fun first s running => ?_⟩
  · intro hotOpen role
    refine ⟨tokenCharge_other s c, fun h => ?_, fun st state lead hst => ?_, fun state h => ?_⟩
    · rcases h with h | ⟨state, single⟩
      · exact tokenCharge_service s c h
      · rw [tokenCharge_running s c state]
        obtain ⟨⟨comp, _⟩, bound, rfl⟩ := Option.map_eq_some_iff.1 single
        rw [bound]
    · rw [tokenCharge_running s c state, hst]
      obtain ⟨⟨comp, _⟩, bound, rfl⟩ := Option.map_eq_some_iff.1 lead
      rw [bound]
      rfl
    · rw [tokenCharge_running s c state]
      rcases h with h | h
      · rw [Option.map_eq_none_iff.1 h]
      · obtain ⟨⟨comp, _⟩, bound, rfl⟩ := Option.map_eq_some_iff.1 h
        rw [bound]
  · intro due clock charged
    have tick (f : Bool) {u : State} (h : u.resetPin = false) : exec (.secondTick f) u = .next (takeSecond f u) :=
      live_of_running h (takeSecond f)
    have ticked : s.clock.tick = clock := s.clock.tick_eq
    have counted := secondCounted_countSecond s
    refine ⟨fun minute => ?_, fun minute h => ?_, fun minute h => ?_, fun minute h => ?_⟩
    · have fields := takeMinute_fields s
      refine ⟨takeMinute s, exec_minuteTick_due running minute, by rw [fields]; rfl, ?_⟩
      rw [tick first running, tick first (by rw [fields]; exact running), takeSecond_minuteDue minute]
    · refine ⟨_, tick first running, ?_⟩
      rw [takeSecond_eq minute h, ticked]
      refine ⟨rfl, fun c => ?_, counted⟩
      exact (Plant.tokens_chargeTokens _ _ c).trans (by rw [tickCharges_get]; rfl)
    · refine ⟨_, _, tick false running, ?_, rfl⟩
      rw [takeSecond_eq minute (.inl rfl)]
      exact (live_of_running (by exact running) refreshOut).trans (congrArg _ (if_pos h))
    · refine ⟨(countSecond s).setPlant (countSecond s).plant.refreshTokens, _, tick true running, rfl, counted, ?_⟩
      rw [takeSecond_refreshFirst minute h, ticked]
      refine ⟨rfl, fun c => ?_⟩
      exact (Plant.tokens_chargeTokens _ _ c).trans (by rw [tickCharges_get]; rfl)

end Sys2Proof.Machine
end

section
/-! Inspections (R12, R123, R139, R144 to R151). -/

namespace Sys2Proof.Machine

open Sys2Proof (Byte Comp Tanker Bay Chan RecipeSlot CargoClass Line Lane Port)

theorem State.setLine_setLine (s : State) (l : Line) (x y : ProbeLine) : (s.setLine l x).setLine l y = s.setLine l y := by
  simp only [State.setLine, put_put_self]

theorem State.setComp_setComp (s : State) (i : Comp) (x y : CompartmentRecord) : (s.setComp i x).setComp i y = s.setComp i y := by
  simp only [State.setComp, put_put_self]

/-! ## INSPECT (R145, R146) -/

/-- INSPECT of a named record and line, its checks in order. -/
theorem ownInspect_named {r : Request} {s : State} {b : Bay} {n k : Byte} {i : Comp} {l : Line} (hr : r.port = bayPort b)
    (hp : r.payload = [n, k]) (isOpen : s.yardOpen = true) (hn : Names n i) (hk : Names k l) :
    ownInspect r s
      = if (s.comp i).state = .free then refuse .noSuch s
        else if parkedBay i s ≠ some b then refuse .notPermitted s
        else if (s.comp i).state ≠ .inspectWait then refuse .wrongState s
        else if (s.line l).state = .detached then refuse .notDocked s
        else if (s.line l).state ≠ .docked then refuse .busy s
        else accept [] (startInspection b l i s) := by
  rw [ownInspect, whenOpen_of_open isOpen]
  simp only [hr, portRole_bayPort, hp, index?_of_names hn, index?_of_names hk]

theorem ownInspect_badArg {r : Request} {s : State} {b : Bay} {n k : Byte} (hr : r.port = bayPort b)
    (hp : r.payload = [n, k]) (isOpen : s.yardOpen = true) (h : NamesNone 96 n ∨ NamesNone 2 k) :
    ownInspect r s = refuse .badArg s := by
  rw [ownInspect, whenOpen_of_open isOpen]
  simp only [hr, portRole_bayPort, hp]
  rcases h with h | h
  · simp only [index?_of_namesNone h]
  · cases index? 96 n.toNat <;> simp only [index?_of_namesNone h]

theorem ownInspect_closed {r : Request} {s : State} (closed : s.yardOpen = false) : ownInspect r s = refuse .notOpen s :=
  whenOpen_of_closed closed _

/-! ## An inspection's end (R139, R144) -/

/-- A session closed, and its inspection gone with its outcome (R139, R144). -/
def sessionEnded (l : Line) (e : Option LinkError) (o : InspectionOutcome) (s : State) : State :=
  (s.setLine l
    { (s.line l).close (s.setting .powerOffTime) with
      lastError := e.or (s.line l).lastError, lastResult := some o }).setInspection l none

theorem closeLine_inSession {l : Line} {s : State} (h : (s.line l).state.inSession = true) (e : Option LinkError) :
    closeLine l e s
      = s.setLine l { (s.line l).close (s.setting .powerOffTime) with lastError := e.or (s.line l).lastError } := by
  rw [closeLine, if_pos h, State.modLine_eq]

theorem closeLine_keeps (l : Line) (e : Option LinkError) (s : State) :
    closeLine l e s = { s with lines := (closeLine l e s).lines } := by
  unfold closeLine
  split <;> rfl

theorem comp_closeLine (l : Line) (e : Option LinkError) (s : State) (i : Comp) : (closeLine l e s).comp i = s.comp i := by
  rw [closeLine_keeps]
  rfl

/-- A session that has just closed, whatever was written to a record since, with its outcome. -/
theorem lastResult_closed {l : Line} {s : State} (h : (s.line l).state.inSession = true) (e : Option LinkError)
    (o : InspectionOutcome) (i : Comp) (r : CompartmentRecord) :
    ((closeLine l e s).setComp i r).modLine l (fun y => { y with lastResult := some o })
      = (s.setLine l
          { (s.line l).close (s.setting .powerOffTime) with
            lastError := e.or (s.line l).lastError, lastResult := some o }).setComp i r := by
  rw [closeLine_inSession h, State.modLine_eq, State.line_setComp, State.line_setLine_self]
  exact congrArg (fun t => State.setComp t i r) (State.setLine_setLine s l _ _)

/-- The end of an inspection whose session has just closed, and whose record has been written. -/
theorem finishInspection_closed {l : Line} {s : State} (h : (s.line l).state.inSession = true) (e : Option LinkError)
    (o : InspectionOutcome) (x : Inspection) (r : CompartmentRecord) :
    finishInspection l x o ((closeLine l e s).setComp x.comp r)
      = raiseNotice (bayPort x.bay) 4 (l.val + 1) ((sessionEnded l e o s).setComp x.comp r) := by
  rw [finishInspection, lastResult_closed h]
  rfl

/-- CANCEL_INSPECT of a line, its checks in order (R151). -/
theorem ownCancelInspect_named {r : Request} {s : State} {n : Byte} {l : Line} (hp : r.payload = [n]) (hn : Names n l) :
    ownCancelInspect r s
      = match s.inspection l with
        | none => refuse .wrongState s
        | some x =>
          if foreignInspection r.port x then refuse .notPermitted s
          else accept [] (finishInspection l x .cancelled (reportNoJudgement x.comp (closeLine l none s))) := by
  simp only [ownCancelInspect, hp, nameLine, index?_of_names hn] <;> rfl

theorem foreignInspection_bayPort (b : Bay) (x : Inspection) : foreignInspection (bayPort b) x = decide (x.bay ≠ b) := by
  rw [foreignInspection, portRole_bayPort]

/-- Settles O48: the checks of both requests in order, the opened session, and the session's end. -/
theorem inspect : Obligations.Inspect := by
  refine ⟨fun r s b n k hasked hr hp => ⟨fun closed => ?_, fun isOpen bad => ?_, fun i l isOpen hn hk => ?_⟩,
    fun r s b n k i l c e hasked hr hp isOpen hn hk state parked docked class_ he => ?_,
    fun r s n hasked hp => ⟨fun hn => ?_, fun l hn => ⟨fun none => ?_, fun x hx => ⟨fun b hr other => ?_, fun hr session state => ?_⟩⟩⟩⟩
  · exact takeRequest_refused hasked.1 hasked.2 (ownInspect_closed closed)
  · exact takeRequest_refused hasked.1 hasked.2 (ownInspect_badArg hr hp isOpen bad)
  · have named := ownInspect_named (s := s.taking .inspect r) hr hp isOpen hn hk
    have refused {x : ResultCode} (h : ownInspect r (s.taking .inspect r) = refuse x (s.taking .inspect r)) :
        exec (.inspect r) s = .next (s.answered .inspect r x []) := takeRequest_refused hasked.1 hasked.2 h
    refine ⟨fun free => refused (named.trans (if_pos free)),
      fun there away => refused (named.trans ((if_neg there).trans (if_pos away))), fun there parked => ?_⟩
    have located := named.trans ((if_neg there).trans (if_neg (not_not.2 parked)))
    refine ⟨fun state => refused (located.trans (if_pos state)),
      fun state detached => refused (located.trans ((if_neg (not_not.2 state)).trans (if_pos detached))),
      fun state attached other => refused (located.trans ((if_neg (not_not.2 state)).trans ((if_neg attached).trans (if_pos other))))⟩
  · have there : (s.comp i).state ≠ .free := by
      rw [state]
      exact nofun
    have attached : (s.line l).state ≠ .detached := by
      rw [docked]
      exact nofun
    have own : ownInspect r (s.taking .inspect r) = accept [] (startInspection b l i (s.taking .inspect r)) :=
      (ownInspect_named (s := s.taking .inspect r) hr hp isOpen hn hk).trans
        ((if_neg there).trans ((if_neg (not_not.2 parked)).trans ((if_neg (not_not.2 state)).trans
          ((if_neg attached).trans (if_neg (not_not.2 docked))))))
    have starts : startInspection b l i (s.taking .inspect r)
        = (((s.taking .inspect r).setComp i { s.comp i with state := .inspecting }).setInspection l
            (some
              { comp := i, bay := b, phase := .opening, limits := (s.limits[e]).maxima, toTake := s.setting .samples, taken := 0
                worst := ⟨0, 0, 0, 0⟩ })).setLine l ((s.line l).open i (s.setting .powerUpTime)) := by
      have entry : limitEntry (s.taking .inspect r) ((s.taking .inspect r).comp i).nextClass = s.limits[e] := by
        rw [show ((s.taking .inspect r).comp i).nextClass = some c from class_]
        exact limitEntry_of_class _ he
      unfold startInspection
      rw [entry]
      exact if_pos docked
    refine (takeRequest_accepted hasked own).trans ?_
    rw [starts, ← answering_taking]
    rfl
  · refine takeRequest_refused hasked.1 hasked.2 ?_
    simp only [ownCancelInspect, hp, nameLine, index?_of_namesNone hn]
  · refine takeRequest_refused hasked.1 hasked.2 ((ownCancelInspect_named hp hn).trans ?_)
    rw [show (s.taking .cancelInspect r).inspection l = Option.none from none]
  · refine takeRequest_refused hasked.1 hasked.2 ((ownCancelInspect_named hp hn).trans ?_)
    rw [show (s.taking .cancelInspect r).inspection l = some x from hx]
    exact if_pos (by rw [hr, foreignInspection_bayPort]; exact decide_eq_true other.symm)
  · have own : foreignInspection r.port x = false := by
      rcases hr with hr | hr <;> rw [hr]
      · rfl
      · rw [foreignInspection_bayPort]
        exact decide_eq_false (not_not.2 rfl)
    have back : reportNoJudgement x.comp (closeLine l Option.none (s.taking .cancelInspect r))
        = (closeLine l Option.none (s.taking .cancelInspect r)).setComp x.comp { s.comp x.comp with state := .inspectWait } := by
      have record : (closeLine l Option.none (s.taking .cancelInspect r)).comp x.comp = s.comp x.comp := comp_closeLine ..
      rw [reportNoJudgement, if_pos (by rw [record]; exact state), State.modComp, record]
    have ends : ownCancelInspect r (s.taking .cancelInspect r)
        = accept [] (raiseNotice (bayPort x.bay) 4 (l.val + 1)
            ((sessionEnded l Option.none .cancelled (s.taking .cancelInspect r)).setComp x.comp
              { s.comp x.comp with state := .inspectWait })) := by
      rw [ownCancelInspect_named hp hn, show (s.taking .cancelInspect r).inspection l = some x from hx]
      dsimp only
      rw [own, back, finishInspection_closed (s := s.taking .cancelInspect r) session]
      rfl
    refine (takeRequest_accepted hasked ends).trans ?_
    rw [answering_raiseNotice, ← answering_taking]
    rfl

end Sys2Proof.Machine
end

section
/-! Link errors, the dock and a session's timed phases (R122, R124, R130, R133, R134, R137 to R139, R150). -/

namespace Sys2Proof.Machine

open Sys2Proof (Byte Comp Tanker Bay Chan RecipeSlot CargoClass Line Lane Port)

/-! ## Link errors (R138, R150) -/

theorem LineState.inSession_eq_false {x : LineState} : x.inSession = false ↔ x = .detached ∨ x = .docked ∨ x = .closing := by
  cases x <;> simp [LineState.inSession]

theorem linkError_outside {l : Line} {s : State} (h : (s.line l).state.inSession = false) (e : LinkError) : linkError l e s = s := by
  rw [linkError, h]
  rfl

theorem linkError_inSession {l : Line} {s : State} {x : Inspection} (h : (s.line l).state.inSession = true)
    (hx : s.inspection l = some x) (e : LinkError) :
    linkError l e s = finishInspection l x .linkError (reportLinkError x.comp (closeLine l (some e) s)) := by
  rw [linkError, if_pos h, hx]

/-- The end of an inspection whose session has just closed, and whose record a notice tells of. -/
theorem finishInspection_closed_raised {l : Line} {s : State} (h : (s.line l).state.inSession = true) (e : Option LinkError)
    (o : InspectionOutcome) (x : Inspection) (r : CompartmentRecord) (kind subject : Nat) :
    finishInspection l x o (raiseNotice officePort kind subject ((closeLine l e s).setComp x.comp r))
      = raiseNotice (bayPort x.bay) 4 (l.val + 1)
          (raiseNotice officePort kind subject ((sessionEnded l e o s).setComp x.comp r)) := by
  have through : (raiseNotice officePort kind subject ((closeLine l e s).setComp x.comp r)).modLine l
        (fun y => { y with lastResult := some o })
      = raiseNotice officePort kind subject
          (((closeLine l e s).setComp x.comp r).modLine l (fun y => { y with lastResult := some o })) := rfl
  rw [finishInspection, through, lastResult_closed h]
  rfl

/-- A try is counted in the record of a closed session (R12). -/
theorem reportLinkError_closed {l : Line} {e : Option LinkError} {s : State} {i : Comp} (state : (s.comp i).state = .inspecting) :
    reportLinkError i (closeLine l e s)
      = if 3 ≤ (s.comp i).tries + 1 then
          raiseNotice officePort 1 (i.val + 1)
            ((closeLine l e s).setComp i
              { s.comp i with
                state := .held, tries := (s.comp i).tries + 1, hold := some .probeFail, binding := none, cert := none })
        else (closeLine l e s).setComp i { s.comp i with state := .inspectWait, tries := (s.comp i).tries + 1 } := by
  have record : (closeLine l e s).comp i = s.comp i := comp_closeLine ..
  rw [reportLinkError, if_pos (by rw [record]; exact state), record]
  dsimp only
  split
  · rw [holdRecord, State.modComp_eq, State.modComp_eq, State.comp_setComp_self, State.setComp_setComp, record]
    rfl
  · rw [State.modComp_eq, record]

/-! ## The dock (R122) -/

/-- The debounced dock takes PDOCK's level. -/
def docks (l : Line) (s : State) : State := s.setLine l { s.line l with docked := (s.line l).pdock, debounce := none }

theorem debounceOut_eq {l : Line} {s : State} {ms : Nat} (h : (s.line l).debounce = some ms) :
    debounceOut l s
      = match (s.line l).state with
        | .detached => if (s.line l).pdock then (docks l s).modLine l fun y => { y with state := .docked } else docks l s
        | .docked => if (s.line l).pdock then docks l s else (docks l s).modLine l fun y => { y with state := .detached }
        | .powering | .resetting | .opening | .ready | .sending | .awaiting | .receiving =>
          if (s.line l).pdock then docks l s else linkError l .undocked (docks l s)
        | .closing => docks l s := by
  unfold debounceOut
  exact if_neg (by rw [h]; exact Bool.false_ne_true)

/-- The dock lost in a session is a link error (R122). -/
theorem debounceOut_inSession {l : Line} {s : State} {ms : Nat} (h : (s.line l).debounce = some ms)
    (session : (s.line l).state.inSession = true) (level : (s.line l).pdock = false) :
    debounceOut l s = linkError l .undocked (docks l s) := by
  rw [debounceOut_eq h, level]
  generalize (s.line l).state = x at session
  match x, session with
  | .powering, _ | .resetting, _ | .opening, _ | .ready, _ | .sending, _ | .awaiting, _ | .receiving, _ => rfl

/-! ## Limits (R137) -/

theorem repeatWith_last {l : Line} {s : State} (h : 2 ≤ (s.line l).exchange.repeats) (block : List Byte) :
    repeatWith l block s = linkError l .blockErrors s := by
  rw [repeatWith]
  exact if_pos (Nat.succ_le_succ h)

theorem repeatWith_more {l : Line} {s : State} (h : (s.line l).exchange.repeats < 2) (block : List Byte) :
    repeatWith l block s
      = s.setLine l
          ({ s.line l with
              exchange := { (s.line l).exchange with repeats := (s.line l).exchange.repeats + 1 } }.send block) := by
  rw [repeatWith, if_neg (by omega), State.modLine_eq]

/-- Settles O49: a link error in and out of a session, and each expiry in its own state. -/
theorem linkErrorsDockAndLimits : Obligations.LinkErrorsDockAndLimits := by
  refine ⟨fun l e s => ⟨fun h => linkError_outside (LineState.inSession_eq_false.2 h) e, fun x detached docked closing hx state => ?_⟩,
    fun l s running => ?_, fun l s running => ?_⟩
  · intro y closed
    have session : (s.line l).state.inSession = true := by
      rw [← Bool.not_eq_false, LineState.inSession_eq_false]
      exact not_or.2 ⟨detached, not_or.2 ⟨docked, closing⟩⟩
    rw [linkError_inSession session hx, reportLinkError_closed state]
    refine ⟨fun few => ?_, fun last => ?_⟩
    · rw [if_neg (Nat.not_le.2 (Nat.succ_lt_succ few)), finishInspection_closed session]
      rfl
    · rw [if_pos (Nat.succ_le_succ last), finishInspection_closed_raised session]
      rfl
  · intro x
    have debounce : exec (.dockDebounceExpiry l) s = .next (debounceOut l s) := live_of_running running (debounceOut l)
    refine ⟨fun level => ?_, fun none => ?_, fun ms hms => ?_, live_of_running running (powerUpOut l),
      live_of_running running (resetLengthOut l), live_of_running running (offOut l)⟩
    · have interval : x.debounce.or (some (s.setting .dockDebounce))
          = if x.debounce = none then some (s.setting .dockDebounce) else x.debounce := by cases x.debounce <;> rfl
      rw [← interval]
      exact next_of_running running
    · rw [debounce, debounceOut]
      exact congrArg _ (if_pos (Option.isNone_iff_eq_none.2 none))
    · intro t
      have docked (d : ProbeLine → ProbeLine) :
          (docks l s).modLine l d = s.setLine l (d { x with docked := x.pdock, debounce := none }) := by
        rw [docks, State.modLine_eq, State.line_setLine_self, State.setLine_setLine]
      rw [debounce]
      refine ⟨fun state => ?_, fun state level => ?_, fun state level => ?_, fun session level => ?_⟩
      · rw [debounceOut_eq hms, state]
        rfl
      · rw [debounceOut_eq hms, state, level]
        refine congrArg _ ((docked fun y => { y with state := .docked }).trans ?_)
        rw [level]
      · rw [debounceOut_eq hms, state, level]
        refine congrArg _ ((docked fun y => { y with state := .detached }).trans ?_)
        rw [level]
      · exact congrArg _ (debounceOut_inSession hms session level)
  · intro x
    have sync : x.timers.sync.isSome = true ↔ x.timers.sync ≠ none := Option.isSome_iff_ne_none
    have opening : x.timers.opening.isSome = true ↔ x.timers.opening ≠ none := Option.isSome_iff_ne_none
    have character : exec (.charWaitExpiry l) s = .next (charWaitOut l s) := live_of_running running (charWaitOut l)
    have bad (state : x.state = .receiving) (timer : x.timers.charWait ≠ none) : charWaitOut l s = badBlock l s :=
      if_pos ⟨state, Option.isSome_iff_ne_none.2 timer⟩
    refine ⟨?_, ?_, live_of_running running (blockWaitOut l), fun h => ?_, fun state timer last => ?_, fun state timer more => ?_⟩
    · exact (live_of_running running (syncOut l)).trans (congrArg _ (if_congr (and_congr_right fun _ => sync) rfl rfl))
    · exact (live_of_running running (openLimitOut l)).trans (congrArg _ (if_congr (and_congr_right fun _ => opening) rfl rfl))
    · rw [character, charWaitOut, if_neg]
      rintro ⟨state, timer⟩
      exact h.elim (absurd state) fun e => Option.isSome_iff_ne_none.1 timer e
    · rw [character, bad state timer, badBlock, repeatWith_last last]
    · rw [character, bad state timer, badBlock, repeatWith_more more]
      rfl

end Sys2Proof.Machine
end

section
/-! Blocks are sent (R126, R127, R132, R133, R148). -/

namespace Sys2Proof.Machine

open Sys2Proof (Byte Comp Tanker Bay Chan RecipeSlot CargoClass Line Lane Port)

/-! ## Transmissions (R127, R142) -/

theorem parityInvert_eq {s : State} (h : SettingsInRange s) (l : Line) :
    parityInvert s l = decide (s.setting (if l = 0 then .parityInvertPA else .parityInvertPB) = 1) := by
  have range (x : Setting) (hx : x = .parityInvertPA ∨ x = .parityInvertPB) : s.setting x ≤ 1 := by
    have within := of_decide_eq_true (h x)
    rcases hx with rfl | rfl <;> exact within.2
  have flag : s.setting (if l = 0 then .parityInvertPA else .parityInvertPB) ≤ 1 := range _ (by split <;> simp)
  rw [parityInvert, decide_eq_decide]
  omega

theorem ProbeLine.transmit_eq {x : ProbeLine} {y : Sending} {b : Byte} {rest : List Byte} (hy : x.sending = some y)
    (left : y.left = b :: rest) (n : Nat) (invert : Bool) :
    x.transmit n invert
      = { x with transmissions := n, sending := some { y with started := true, parityBit := evenParity b ^^ invert } } := by
  simp only [ProbeLine.transmit, hy, left, List.headD_cons]

section Sending

variable {l : Line} {s : State} {y : Sending}

theorem startBlock_sending (state : (s.line l).state = .sending) (hy : (s.line l).sending = some y) :
    startBlock l s
      = if y.started then s
        else s.modLine l fun x => { x with timers := { x.timers with blockGuard := none } }.transmit 1 (parityInvert s l) := by
  simp only [startBlock, state, hy]

theorem endCharacter_sending (state : (s.line l).state = .sending) (hy : (s.line l).sending = some y) (errorSignal : Bool) :
    endCharacter l errorSignal s
      = if !y.started then s
        else if errorSignal then
          if 4 ≤ (s.line l).transmissions then linkError l .charRetry s
          else s.modLine l fun x => x.transmit (x.transmissions + 1) (parityInvert s l)
        else if (y.left.drop 1).isEmpty then s.modLine l fun x => x.await (s.setting .blockWait)
        else s.modLine l fun x => { x with sending := some { y with left := y.left.drop 1 } }.transmit 1 (parityInvert s l) := by
  simp only [endCharacter, state, hy]

end Sending

/-! ## The character driven (R121, R126) -/

theorem drivenCharacter_started {l : Line} {s : State} {y : Sending} (running : s.resetPin = false)
    (state : (s.line l).state = .sending) (hy : (s.line l).sending = some y) (started : y.started = true) :
    drivenCharacter s l = some ⟨wireBits (s.line l).bitOrder (y.left.headD 0), y.parityBit⟩ := by
  have drives : (lineOutputs s l).drivesData = true := by
    simp only [lineOutputs, running, state, hy, Option.any_some, started]
    rfl
  rw [drivenCharacter, if_pos drives, hy]
  rfl

theorem drivenCharacter_none {l : Line} {s : State}
    (h : s.resetPin = true ∨ (s.line l).state ≠ .sending ∨ (∀ y : Sending, (s.line l).sending = some y → y.started = false)) :
    drivenCharacter s l = none := by
  have still : (lineOutputs s l).drivesData = false := by
    unfold lineOutputs
    split
    · rfl
    · next running =>
      rcases h with h | h | h
      · exact absurd h running
      · split <;> [rfl; rfl; rfl; rfl; rfl; rfl; rfl; rfl; rfl; exact absurd ‹_› h]
      · split <;> [rfl; rfl; rfl; rfl; rfl; rfl; rfl; rfl; rfl; skip]
        rw [Option.any_eq_false]
        exact fun y hy => by simp [h y hy]
  rw [drivenCharacter, still]
  rfl

theorem foldl_xor_parity {α : Type} (f : α → Bool) (l : List α) (p : Bool) :
    l.foldl (fun p i => p ^^ f i) p = (p ^^ decide (l.countP f % 2 = 1)) := by
  induction l generalizing p with
  | nil => simp
  | cons a l ih =>
    rw [List.foldl_cons, ih, List.countP_cons]
    cases h : f a
    · simp
    · have odd : decide ((l.countP f + 1) % 2 = 1) = !decide (l.countP f % 2 = 1) := by
        rw [← decide_not, decide_eq_decide]
        omega
      simp [odd]

/-- The parity bit of a byte says whether it has an odd number of ones (R126). -/
theorem evenParity_eq (b : Byte) : evenParity b = decide (((List.range 8).countP fun i => b.getLsbD i) % 2 = 1) := by
  have bits : (List.range 8).countP (fun i => b.getLsbD i) = (List.finRange 8).countP fun i => b.getLsbD i.val := by
    rw [← List.map_coe_finRange_eq_range, List.countP_map]
    rfl
  rw [evenParity, foldl_xor_parity (fun i : Fin 8 => b.getLsbD i.val), bits, Bool.false_xor]

/-! ## MEASURE (R132, R148) -/

theorem measure_eq (l : Line) (s : State) :
    measure l s
      = if (s.line l).state = .ready then
          s.setLine l
            ({ s.line l with
                exchange := ⟨blockTo (s.line l).checkMode controlInfo [measureCode], 0, 0, none⟩ }.send
              (blockTo (s.line l).checkMode controlInfo [measureCode]))
        else s := rfl

theorem probeCrc_divides (l : List Byte) :
    MultipleOf 0x11021 ((messageBits l <<< 16) ^^^ (0xFFFF <<< (8 * l.length)) ^^^ (probeCrc l).toNat) := by
  induction l using List.reverseRecOn with
  | nil => exact .zero _
  | append_singleton l b ih =>
    have both := (ih.shift 8).xor (probeCrcByte_divides (probeCrc l) b)
    have len : 8 * (l ++ [b]).length = 8 * l.length + 8 := by rw [List.length_append, List.length_singleton, Nat.mul_succ]
    rw [messageBits_append, probeCrc_append, len]
    generalize messageBits l = m, (probeCrc l).toNat = c, (probeCrcByte (probeCrc l) b).toNat = c', 8 * l.length = k at both ⊢
    have cancel : (m <<< 16 ^^^ 0xFFFF <<< k ^^^ c) <<< 8 ^^^ ((c ^^^ b.toNat <<< 8) <<< 8 ^^^ c')
        = ((m <<< 8) ^^^ b.toNat) <<< 16 ^^^ 0xFFFF <<< (k + 8) ^^^ c' := by
      simp only [xor_shiftLeft, ← Nat.shiftLeft_add]
      generalize m <<< (16 + 8) = m', 0xFFFF <<< (k + 8) = f, c <<< 8 = d, b.toNat <<< (8 + 8) = e
      calc m' ^^^ f ^^^ d ^^^ (d ^^^ e ^^^ c') = m' ^^^ f ^^^ (d ^^^ d) ^^^ e ^^^ c' := by simp only [Nat.xor_assoc]
        _ = m' ^^^ e ^^^ f ^^^ c' := by rw [Nat.xor_self, Nat.xor_zero, Nat.xor_right_comm m']
    rwa [cancel] at both

/-- Settles O50: the sending of a block character by character, the character driven, and MEASURE with its check. -/
theorem blocksAreSent : Obligations.BlocksAreSent := by
  refine ⟨fun l s y running state hy => ?_, ⟨fun l s y b rest running state hy left started => ⟨fun order => ?_, fun order => ?_⟩,
    fun l s h => drivenCharacter_none h, fun b => ?_⟩, fun l s => ?_, probeCrc_divides, by decide +kernel⟩
  · intro x invert bit ranges b rest left
    have parity : parityInvert s l = invert := parityInvert_eq ranges l
    have start : exec (.blockSendStart l) s = .next (startBlock l s) := live_of_running running (startBlock l)
    have sent (e : Bool) : exec (.characterSent l e) s = .next (endCharacter l e s) := live_of_running running (endCharacter l e)
    simp only [start, sent, startBlock_sending state hy, endCharacter_sending state hy, parity, State.modLine_eq]
    refine ⟨fun fresh => ?_, fun started => ?_⟩
    · rw [fresh, ProbeLine.transmit_eq (y := y) (by exact hy) left]
      exact ⟨rfl, fun _ => rfl⟩
    · rw [started, ProbeLine.transmit_eq (y := y) hy left]
      refine ⟨rfl, fun more => congrArg _ ?_, fun last => congrArg _ ?_, fun c more hrest => congrArg _ ?_, fun hrest => congrArg _ ?_⟩
      · exact (if_neg (Nat.not_le.2 more)).trans (by rw [← started])
      · exact if_pos last
      · subst hrest
        have left' : y.left.drop 1 = c :: more := by rw [left, List.drop_one, List.tail_cons]
        rw [left', ProbeLine.transmit_eq (y := ⟨c :: more, true, y.parityBit⟩) rfl rfl]
        rfl
      · have none : y.left.drop 1 = [] := by rw [left, List.drop_one, List.tail_cons, hrest]
        rw [none]
        rfl
  · rw [drivenCharacter_started running state hy started, left, order]
    rfl
  · rw [drivenCharacter_started running state hy started, left, order]
    exact ⟨reverseBits b, rfl, fun i hi => reverseBits_getLsbD b i hi⟩
  · rw [evenParity_eq]
    simp only [decide_eq_true_eq]
    split <;> omega
  · intro x block
    have info : blockTo x.checkMode controlInfo [measureCode] = block := by
      have covered : 1 :: controlInfo :: byte [measureCode].length :: [measureCode] = [1, 0x10, 1, 0x21] := rfl
      simp only [block, blockTo, covered]
      generalize [(1 : Byte), 0x10, 1, 0x21] = body
      cases x.checkMode <;> rfl
    refine ⟨fun state => ?_, fun state => ?_⟩
    · rw [measure_eq]
      exact if_neg state
    · rw [measure_eq, ← info]
      exact if_pos state

end Sys2Proof.Machine
end

section
/-! Replies and blocks are judged once: the line leaves the state that the judgement is made in (R131, R135). -/

namespace Sys2Proof.Machine

open Sys2Proof (Byte Comp Tanker Bay Chan RecipeSlot CargoClass Line Lane Port)

/-! ## What the reports leave of the lines (R12) -/

theorem reportLinkError_lines (i : Comp) (s : State) : (reportLinkError i s).lines = s.lines := by
  unfold reportLinkError
  split
  · dsimp only
    split <;> rfl
  · rfl

theorem reportNoJudgement_lines (i : Comp) (s : State) : (reportNoJudgement i s).lines = s.lines := by
  unfold reportNoJudgement
  split <;> rfl

theorem reportPass_lines (i : Comp) (worst : Measures) (s : State) : (reportPass i worst s).lines = s.lines := by
  unfold reportPass
  split <;> rfl

theorem reportFail_lines (i : Comp) (worst : Measures) (failed : List Measure) (s : State) :
    (reportFail i worst failed s).lines = s.lines := by
  unfold reportFail
  split <;> rfl

/-! ## Settled lines -/

/-- A line that waits for no reply and no block: judged, or ended. -/
def Settled (s : State) (l : Line) : Prop :=
  (s.line l).state = .ready ∨ (s.line l).state = .sending ∨ (s.line l).state = .closing

theorem Settled.not_opening {s : State} {l : Line} (h : Settled s l) : (s.line l).state ≠ .opening := by
  rcases h with h | h | h <;> rw [h] <;> exact nofun

theorem Settled.not_receiving {s : State} {l : Line} (h : Settled s l) : (s.line l).state ≠ .receiving := by
  rcases h with h | h | h <;> rw [h] <;> exact nofun

theorem closeLine_state {l : Line} {s : State} (h : (s.line l).state.inSession = true) (e : Option LinkError) :
    ((closeLine l e s).line l).state = .closing := by
  rw [closeLine_inSession h, State.line_setLine_self]
  rfl

theorem finishInspection_state (l : Line) (x : Inspection) (o : InspectionOutcome) (s : State) :
    ((finishInspection l x o s).line l).state = (s.line l).state := by
  rw [finishInspection, raiseInspectionEnded, raiseNotice_eq, State.line_setPort, State.line_setInspection, State.modLine_eq,
    State.line_setLine_self]

/-- An inspection that ends with its closed session's record reported leaves the line settled. -/
theorem settled_finish {l : Line} {s t : State} (h : (s.line l).state.inSession = true) {e : Option LinkError}
    (lines : t.lines = (closeLine l e s).lines) (x : Inspection) (o : InspectionOutcome) : Settled (finishInspection l x o t) l := by
  refine .inr (.inr ?_)
  rw [finishInspection_state, State.line, lines]
  exact closeLine_state h e

theorem settled_linkError {l : Line} {s : State} (h : (s.line l).state.inSession = true) (e : LinkError) :
    Settled (linkError l e s) l := by
  rw [linkError, if_pos h]
  dsimp only
  split
  · exact .inr (.inr (closeLine_state h _))
  · exact settled_finish h (reportLinkError_lines _ _) _ _

theorem settled_setLine {l : Line} {s : State} {x : ProbeLine} (h : x.state = .ready ∨ x.state = .sending ∨ x.state = .closing) :
    Settled (s.setLine l x) l := by
  rw [Settled, State.line_setLine_self]
  exact h

theorem settled_measure {l : Line} {s : State} (h : (s.line l).state = .ready) : Settled (measure l s) l := by
  rw [measure_eq, if_pos h]
  exact settled_setLine (.inr (.inl rfl))

theorem inSession_of_ready {l : Line} {s : State} (h : (s.line l).state = .ready) : (s.line l).state.inSession = true := by
  rw [h]
  rfl

theorem settled_openedReport {l : Line} {s : State} (h : (s.line l).state = .ready) (age : Nat) : Settled (openedReport l age s) l := by
  unfold openedReport
  split
  · exact .inl h
  · split
    · exact settled_finish (inSession_of_ready h) (reportNoJudgement_lines _ _) _ _
    · exact settled_measure h

theorem settled_judgeInspection {l : Line} {s : State} (h : (s.line l).state = .ready) (x : Inspection) :
    Settled (judgeInspection l x s) l := by
  unfold judgeInspection
  dsimp only
  split
  · exact settled_finish (inSession_of_ready h) (reportPass_lines ..) _ _
  · exact settled_finish (inSession_of_ready h) (reportFail_lines ..) _ _

theorem settled_exchangeDone {l : Line} {s : State} (h : (s.line l).state = .ready) (data : List Byte) :
    Settled (exchangeDone l data s) l := by
  unfold exchangeDone
  split
  · exact .inl h
  · split
    · exact settled_finish (inSession_of_ready h) (reportLinkError_lines _ _) _ _
    · dsimp only
      split
      · exact settled_measure h
      · exact settled_judgeInspection h _

theorem settled_repeatWith {l : Line} {s : State} (h : (s.line l).state.inSession = true) (block : List Byte) :
    Settled (repeatWith l block s) l := by
  unfold repeatWith
  split
  · exact settled_linkError h _
  · exact settled_setLine (.inr (.inl rfl))

theorem settled_extendWait {l : Line} {s : State} (h : (s.line l).state.inSession = true) (factor : Byte) :
    Settled (extendWait l factor s) l := by
  unfold extendWait
  split
  · exact settled_linkError h _
  · exact settled_setLine (.inr (.inl rfl))

theorem settled_judgeReply {l : Line} {s : State} (h : (s.line l).state.inSession = true) : Settled (judgeReply l s) l := by
  unfold judgeReply
  dsimp only
  split
  · exact settled_linkError h _
  · split
    · exact settled_linkError h _
    · refine settled_openedReport ?_ _
      rw [State.modLine_eq, State.line_setLine_self]

theorem settled_judgeBlock {l : Line} {s : State} (h : (s.line l).state.inSession = true) : Settled (judgeBlock l s) l := by
  unfold judgeBlock
  dsimp only
  split
  · exact settled_repeatWith h _
  · split
    · exact settled_linkError h _
    · split
      · split <;> [exact settled_linkError h _; exact settled_repeatWith h _]
      · split
        · split <;> [exact settled_linkError h _; exact settled_extendWait h _]
        · refine settled_exchangeDone ?_ _
          rw [State.modLine_eq, State.line_setLine_self]

/-! ## Judgements as commands (log 23) -/

theorem replyReceived_other {l : Line} {s : State} (h : (s.line l).state ≠ .opening ∨ replyComplete (s.line l).received = false) :
    replyReceived l s = s := by
  rw [replyReceived, if_neg]
  rintro ⟨state, complete⟩
  rcases h with h | h
  · exact h state
  · rw [h] at complete
    exact nomatch complete

theorem blockReceived_other {l : Line} {s : State} (h : (s.line l).state ≠ .receiving ∨ (s.line l).blockComplete = false) :
    blockReceived l s = s := by
  rw [blockReceived, if_neg]
  rintro ⟨state, complete⟩
  rcases h with h | h
  · exact h state
  · rw [h] at complete
    exact nomatch complete

/-- A character that finds no reply and no block complete is taken as its line's state gives. -/
theorem probeCharacter_unjudged {l : Line} {s : State} (c : ProbeChar)
    (reply : (s.line l).state ≠ .opening ∨ replyComplete (s.line l).received = false)
    (block : (s.line l).state ≠ .receiving ∨ (s.line l).blockComplete = false) :
    probeCharacter l c s
      = match (s.line l).state with
        | .opening => openingCharacter l c s
        | .ready => linkError l .protocol s
        | .awaiting => blockCharacter l c (s.modLine l ProbeLine.beginBlock)
        | .receiving => blockCharacter l c s
        | .detached | .docked | .powering | .resetting | .sending | .closing => s := by
  unfold probeCharacter
  dsimp only
  rw [replyReceived_other reply, blockReceived_other block] <;> rfl

/-- A character that finds a reply or a block complete comes after its judgement. -/
theorem probeCharacter_settled {l : Line} {s t : State} (c : ProbeChar) (h : blockReceived l (replyReceived l s) = t)
    (settled : Settled t l) : probeCharacter l c s = probeCharacter l c t := by
  have again : blockReceived l (replyReceived l t) = t := by
    rw [replyReceived_other (.inl settled.not_opening), blockReceived_other (.inl settled.not_receiving)]
  unfold probeCharacter
  dsimp only
  rw [h, again]

theorem probeCharacter_after_reply {l : Line} {s : State} (c : ProbeChar) (state : (s.line l).state = .opening)
    (complete : replyComplete (s.line l).received = true) : probeCharacter l c s = probeCharacter l c (replyReceived l s) := by
  have settled : Settled (replyReceived l s) l := by
    rw [replyReceived, if_pos ⟨state, complete⟩]
    exact settled_judgeReply (by rw [state]; rfl)
  exact probeCharacter_settled c (blockReceived_other (.inl settled.not_receiving)) settled

theorem probeCharacter_after_block {l : Line} {s : State} (c : ProbeChar) (state : (s.line l).state = .receiving)
    (complete : (s.line l).blockComplete = true) : probeCharacter l c s = probeCharacter l c (blockReceived l s) := by
  have settled : Settled (blockReceived l s) l := by
    rw [blockReceived, if_pos ⟨state, complete⟩]
    exact settled_judgeBlock (by rw [state]; rfl)
  have unopened : replyReceived l s = s := replyReceived_other (.inl (by rw [state]; exact nofun))
  exact probeCharacter_settled c (by rw [unopened]) settled

end Sys2Proof.Machine
end

section
/-! The characters of a reply and of a block (R120, R124, R126, R128 to R131, R134). -/

namespace Sys2Proof.Machine

open Sys2Proof (Byte Comp Tanker Bay Chan RecipeSlot CargoClass Line Lane Port)

/-! ## Characters (R126, R128) -/

theorem goodParity_iff (c : ProbeChar) : goodParity c = true ↔ c.parity = evenParity c.wire := decide_eq_true_iff

theorem goodParity_eq_false (c : ProbeChar) : goodParity c = false ↔ c.parity ≠ evenParity c.wire := decide_eq_false_iff_not

theorem charValue_eq (o : BitOrder) (wire : Byte) : charValue o wire = if o = .lsbFirst then wire else reverseBits wire := by
  cases o <;> rfl

/-- The line when it has noted a character of a block (R128, R134). -/
def notedBlock (l : Line) (s : State) : ProbeLine :=
  { s.line l with
    timers :=
      { (s.line l).timers with
        charWait := some ⟨s.setting .charWait, bitPeriod (s.line l).speed⟩
        blockGuard := some ⟨s.setting .blockGuard, bitPeriod (s.line l).speed⟩ } }

theorem noteCharacter_eq (l : Line) (s : State) : noteCharacter l s = s.setLine l (notedBlock l s) := rfl

/-- The line when it has noted a character of the opening reply (R124, R128, R130). -/
def notedReply (l : Line) (s : State) : ProbeLine :=
  { s.line l with
    timers :=
      { (s.line l).timers with
        sync := none
        opening :=
          if (s.line l).timers.opening = none then some ⟨s.setting .openLimit, bitPeriod (s.line l).speed⟩
          else (s.line l).timers.opening
        charWait := some ⟨s.setting .charWait, bitPeriod (s.line l).speed⟩
        blockGuard := some ⟨s.setting .blockGuard, bitPeriod (s.line l).speed⟩ } }

theorem noteReply_eq (l : Line) (s : State) :
    (noteCharacter l s).modLine l (fun x =>
        { x with
          timers := { x.timers with sync := none, opening := x.timers.opening.or (x.timer (s.setting .openLimit)) } })
      = s.setLine l (notedReply l s) := by
  have limit (o : Option LineTimer) (t : LineTimer) : o.or (some t) = if o = none then some t else o := by cases o <;> rfl
  rw [noteCharacter_eq, State.modLine_eq, State.line_setLine_self, State.setLine_setLine]
  simp only [ProbeLine.timer, limit]
  rfl

/-- A character of bad parity is counted, and the fourth is a link error (R128). -/
theorem badCharacter_setLine (l : Line) (s : State) (x : ProbeLine) :
    badCharacter l (s.setLine l x)
      = if 3 ≤ x.badReceptions then linkError l .parity (s.setLine l { x with badReceptions := x.badReceptions + 1 })
        else s.setLine l { x with badReceptions := x.badReceptions + 1 } := by
  simp only [badCharacter, State.modLine_eq, State.line_setLine_self, State.setLine_setLine, Nat.reduceLeDiff]

/-! ## The opening reply -/

theorem openingCharacter_bad {c : ProbeChar} (h : c.parity ≠ evenParity c.wire) (l : Line) (s : State) :
    openingCharacter l c s
      = if 3 ≤ (s.line l).badReceptions then
          linkError l .parity (s.setLine l { notedReply l s with badReceptions := (s.line l).badReceptions + 1 })
        else s.setLine l { notedReply l s with badReceptions := (s.line l).badReceptions + 1 } := by
  unfold openingCharacter
  dsimp only
  rw [noteReply_eq, (goodParity_eq_false c).2 h]
  exact badCharacter_setLine l s (notedReply l s)

theorem openingCharacter_good {c : ProbeChar} (h : c.parity = evenParity c.wire) (l : Line) (s : State) :
    openingCharacter l c s
      = match (s.line l).received with
        | [] =>
          if charValue (s.line l).bitOrder c.wire = 0xA6 then s.setLine l ((notedReply l s).keep 0xA6)
          else if charValue (s.line l).bitOrder c.wire = 0x65 then
            s.setLine l { (notedReply l s).keep 0xA6 with bitOrder := .msbFirst }
          else linkError l .badSync (s.setLine l { notedReply l s with badReceptions := 0 })
        | [_] =>
          if 12 ≤ (charValue (s.line l).bitOrder c.wire).toNat ∧ (charValue (s.line l).bitOrder c.wire).toNat ≤ 20 then
            s.setLine l ((notedReply l s).keep (charValue (s.line l).bitOrder c.wire))
          else linkError l .protocol (s.setLine l { notedReply l s with badReceptions := 0 })
        | _ =>
          s.setLine l
            (if replyComplete ((s.line l).received ++ [charValue (s.line l).bitOrder c.wire]) then
              { (notedReply l s).keep (charValue (s.line l).bitOrder c.wire) with
                timers := { (notedReply l s).timers with opening := none, charWait := none } }
            else (notedReply l s).keep (charValue (s.line l).bitOrder c.wire)) := by
  unfold openingCharacter
  dsimp only
  rw [noteReply_eq, (goodParity_iff c).2 h]
  simp only [State.modLine_eq, State.line_setLine_self, State.setLine_setLine] <;> rfl

theorem openingCharacter_first {c : ProbeChar} (h : c.parity = evenParity c.wire) {l : Line} {s : State}
    (hr : (s.line l).received = []) :
    openingCharacter l c s
      = if charValue (s.line l).bitOrder c.wire = 0xA6 then s.setLine l ((notedReply l s).keep 0xA6)
        else if charValue (s.line l).bitOrder c.wire = 0x65 then
          s.setLine l { (notedReply l s).keep 0xA6 with bitOrder := .msbFirst }
        else linkError l .badSync (s.setLine l { notedReply l s with badReceptions := 0 }) := by
  rw [openingCharacter_good h, hr]

theorem openingCharacter_second {c : ProbeChar} (h : c.parity = evenParity c.wire) {l : Line} {s : State} {a : Byte}
    (hr : (s.line l).received = [a]) :
    openingCharacter l c s
      = if 12 ≤ (charValue (s.line l).bitOrder c.wire).toNat ∧ (charValue (s.line l).bitOrder c.wire).toNat ≤ 20 then
          s.setLine l ((notedReply l s).keep (charValue (s.line l).bitOrder c.wire))
        else linkError l .protocol (s.setLine l { notedReply l s with badReceptions := 0 }) := by
  rw [openingCharacter_good h, hr]

theorem openingCharacter_later {c : ProbeChar} (h : c.parity = evenParity c.wire) {l : Line} {s : State}
    (long : 2 ≤ (s.line l).received.length) :
    openingCharacter l c s
      = s.setLine l
          (if replyComplete ((s.line l).received ++ [charValue (s.line l).bitOrder c.wire]) then
            { (notedReply l s).keep (charValue (s.line l).bitOrder c.wire) with
              timers := { (notedReply l s).timers with opening := none, charWait := none } }
          else (notedReply l s).keep (charValue (s.line l).bitOrder c.wire)) := by
  rw [openingCharacter_good h]
  generalize (s.line l).received = bytes at long
  match bytes, long with
  | _ :: _ :: _, _ => rfl

theorem replyComplete_iff (bytes : List Byte) :
    replyComplete bytes = true ↔ 2 ≤ bytes.length ∧ bytes.length = (bytes.getD 1 0).toNat + 3 := decide_eq_true_iff

theorem replyComplete_eq_false {bytes : List Byte} (h : ¬(2 ≤ bytes.length ∧ bytes.length = (bytes.getD 1 0).toNat + 3)) :
    replyComplete bytes = false := decide_eq_false h

theorem getD_append_one {bytes : List Byte} {i : Nat} (h : i < bytes.length) (b : Byte) :
    (bytes ++ [b]).getD i 0 = bytes.getD i 0 := by
  rw [List.getD_append _ _ _ _ h]

theorem replyComplete_append {bytes : List Byte} (h : 2 ≤ bytes.length) (b : Byte) :
    replyComplete (bytes ++ [b]) = true ↔ bytes.length + 1 = (bytes.getD 1 0).toNat + 3 := by
  rw [replyComplete_iff, List.length_append, List.length_singleton, getD_append_one h]
  exact and_iff_right (Nat.le_succ_of_le h)

/-! ## Blocks -/

/-- A block has all its characters, by its length byte and its check (R134). -/
def Whole (x : ProbeLine) (bytes : List Byte) : Prop :=
  3 ≤ bytes.length
    ∧ bytes.length = (bytes.getD 2 0).toNat + 3 + (match x.checkMode with | .lrc => 1 | .crc => 2)

theorem blockComplete_iff (x : ProbeLine) : x.blockComplete = true ↔ x.badLength = false ∧ Whole x x.received := by
  rw [ProbeLine.blockComplete, Bool.and_eq_true, Bool.not_eq_true', decide_eq_true_iff, Whole]
  cases x.checkMode <;> exact Iff.rfl

theorem blockComplete_eq_false {x : ProbeLine} (h : x.badLength = true ∨ ¬Whole x x.received) : x.blockComplete = false := by
  rw [← Bool.not_eq_true, blockComplete_iff]
  rintro ⟨fits, whole⟩
  rcases h with h | h
  · rw [h] at fits
    exact nomatch fits
  · exact h whole

theorem blockCharacter_bad {c : ProbeChar} (h : c.parity ≠ evenParity c.wire) (l : Line) (s : State) :
    blockCharacter l c s
      = if 3 ≤ (s.line l).badReceptions then
          linkError l .parity (s.setLine l { notedBlock l s with badReceptions := (s.line l).badReceptions + 1 })
        else s.setLine l { notedBlock l s with badReceptions := (s.line l).badReceptions + 1 } := by
  unfold blockCharacter
  dsimp only
  rw [noteCharacter_eq, (goodParity_eq_false c).2 h]
  exact badCharacter_setLine l s (notedBlock l s)

theorem blockCharacter_good {c : ProbeChar} (h : c.parity = evenParity c.wire) (l : Line) (s : State) :
    blockCharacter l c s
      = s.setLine l
          (if (s.line l).badLength then { notedBlock l s with badReceptions := 0 }
          else
            let y := (notedBlock l s).keep (charValue (s.line l).bitOrder c.wire)
            if y.received.length = 3 ∧ (64 < (y.received.getD 2 0).toNat ∨ y.maxLength < (y.received.getD 2 0).toNat) then
              { y with badLength := true }
            else if y.blockComplete then { y with timers := { y.timers with charWait := none } }
            else y) := by
  unfold blockCharacter
  dsimp only
  rw [noteCharacter_eq, (goodParity_iff c).2 h]
  simp only [State.modLine_eq, State.line_setLine_self, State.setLine_setLine]
  rfl

end Sys2Proof.Machine
end

section
/-! The opening reply, its judgement, and the characters of a block (R128 to R131, R134, R147). -/

namespace Sys2Proof.Machine

open Sys2Proof (Byte Comp Tanker Bay Chan RecipeSlot CargoClass Line Lane Port)

variable {l : Line} {c : ProbeChar} {s : State}

theorem exec_probeCharacter (running : s.resetPin = false) (l : Line) (c : ProbeChar) :
    exec (.probeCharacterReceived l c) s = .next (probeCharacter l c s) := live_of_running running (probeCharacter l c)

theorem exec_openingReply (running : s.resetPin = false) (l : Line) : exec (.openingReply l) s = .next (replyReceived l s) :=
  live_of_running running (replyReceived l)

theorem exec_blockReceived (running : s.resetPin = false) (l : Line) : exec (.blockReceived l) s = .next (blockReceived l s) :=
  live_of_running running (blockReceived l)

/-! ## The line's state decides (R121, R128) -/

theorem probeCharacter_ready (state : (s.line l).state = .ready) : probeCharacter l c s = linkError l .protocol s := by
  rw [probeCharacter_unjudged c (.inl (by rw [state]; exact nofun)) (.inl (by rw [state]; exact nofun)), state]

theorem probeCharacter_unlooked
    (state : (s.line l).state = .detached ∨ (s.line l).state = .docked ∨ (s.line l).state = .powering ∨ (s.line l).state = .resetting
      ∨ (s.line l).state = .sending ∨ (s.line l).state = .closing) : probeCharacter l c s = s := by
  rcases state with h | h | h | h | h | h <;>
    rw [probeCharacter_unjudged c (.inl (by rw [h]; exact nofun)) (.inl (by rw [h]; exact nofun)), h]

theorem probeCharacter_opening (state : (s.line l).state = .opening) (incomplete : replyComplete (s.line l).received = false) :
    probeCharacter l c s = openingCharacter l c s := by
  rw [probeCharacter_unjudged c (.inr incomplete) (.inl (by rw [state]; exact nofun)), state]

theorem probeCharacter_awaiting (state : (s.line l).state = .awaiting) :
    probeCharacter l c s = blockCharacter l c (s.modLine l ProbeLine.beginBlock) := by
  rw [probeCharacter_unjudged c (.inl (by rw [state]; exact nofun)) (.inl (by rw [state]; exact nofun)), state]

theorem probeCharacter_receiving (state : (s.line l).state = .receiving) (incomplete : (s.line l).blockComplete = false) :
    probeCharacter l c s = blockCharacter l c s := by
  rw [probeCharacter_unjudged c (.inl (by rw [state]; exact nofun)) (.inr incomplete), state]

/-- A first character taken in AWAITING is the first of a block taken in RECEIVING. -/
theorem probeCharacter_firstOfBlock (state : (s.line l).state = .awaiting) :
    probeCharacter l c s = probeCharacter l c (s.modLine l ProbeLine.beginBlock) := by
  have line : (s.modLine l ProbeLine.beginBlock).line l = (s.line l).beginBlock := by rw [State.modLine_eq, State.line_setLine_self]
  have begun : ((s.modLine l ProbeLine.beginBlock).line l).state = .receiving := by
    rw [line]
    rfl
  have empty : ((s.modLine l ProbeLine.beginBlock).line l).blockComplete = false := by
    rw [line]
    exact blockComplete_eq_false (.inr fun h => absurd h.1 (Nat.not_succ_le_zero 2))
  rw [probeCharacter_awaiting state, probeCharacter_receiving begun empty]

/-! ## The judgement of the opening reply (R131, R147) -/

/-- The characters of a complete opening reply, from its length byte to its last vendor byte (R130, R131). -/
structure ReplyBytes where
  (n kind serial3 serial2 serial1 serial0 age1 age0 speed guard check size : Byte)
  vendor : List Byte

def ReplyBytes.body (b : ReplyBytes) : List Byte :=
  [b.n, b.kind, b.serial3, b.serial2, b.serial1, b.serial0, b.age1, b.age0, b.speed, b.guard, b.check, b.size] ++ b.vendor

theorem judgeReply_eq {b : ReplyBytes} {sum : Byte} (hn : b.n.toNat = b.vendor.length + 11)
    (received : (s.line l).received = 0xA6 :: (b.body ++ [sum])) :
    judgeReply l s
      = if lrc b.body ≠ sum then linkError l .openCheck s
        else if 7 < b.speed.toNat ∨ 243 < b.guard.toNat ∨ 1 < b.check.toNat ∨ b.size.toNat < 16 ∨ 64 < b.size.toNat then
          linkError l .protocol s
        else
          openedReport l (256 * b.age1.toNat + b.age0.toNat)
            (s.setLine l
              { s.line l with
                state := .ready, speed := min b.speed.toNat (maxSpeed s l), extraGuard := b.guard.toNat
                checkMode := if b.check.toNat = 0 then .lrc else .crc, maxLength := b.size.toNat, received := [] }) := by
  have length : b.body.length = b.n.toNat + 1 := by
    rw [ReplyBytes.body, List.length_append, hn]
    exact Nat.add_comm ..
  have covered : ((0xA6 :: (b.body ++ [sum])).drop 1).take (b.n.toNat + 1) = b.body := by
    rw [List.drop_one, List.tail_cons, List.take_left' length]
  have last : (0xA6 :: (b.body ++ [sum])).getD (b.n.toNat + 2) 0 = sum := by
    rw [List.getD_cons_succ, List.getD_append_right _ _ _ _ (Nat.le_of_eq length), length, Nat.sub_self]
    rfl
  have first : (0xA6 :: (b.body ++ [sum])).getD 1 0 = b.n := rfl
  unfold judgeReply
  simp only [received, first, covered, last, State.modLine_eq]
  rfl

/-- What an opened line reports (R147). -/
theorem openedReport_of_inspection {i : Inspection} (hi : s.inspection l = some i) (age : Nat) :
    openedReport l age s
      = if s.setting .calLimit < age then finishInspection l i .calExpired (reportNoJudgement i.comp (closeLine l none s))
        else measure l (s.setInspection l (some { i with phase := .sampling })) := by
  rw [openedReport, hi]

theorem replyReceived_complete {b : ReplyBytes} {sum : Byte} (state : (s.line l).state = .opening)
    (hn : b.n.toNat = b.vendor.length + 11) (received : (s.line l).received = 0xA6 :: (b.body ++ [sum])) :
    replyReceived l s = judgeReply l s := by
  refine if_pos ⟨state, ?_⟩
  rw [received, replyComplete_iff]
  have first : (0xA6 :: (b.body ++ [sum])).getD 1 0 = b.n := rfl
  rw [first, hn]
  simp [ReplyBytes.body]

/-- Settles O51: the characters by the line's state and the reply's place, and the reply's judgement. -/
theorem openingReply : Obligations.OpeningReply := by
  refine ⟨fun l c s running => ?_, fun l c s running state => ?_, fun l s running => ?_, fun l c s running => ?_⟩
  · intro x
    rw [exec_probeCharacter running]
    refine ⟨fun state => congrArg _ (probeCharacter_ready state), fun state => congrArg _ (probeCharacter_unlooked state),
      fun state received order => ?_⟩
    intro noted
    have incomplete : replyComplete (s.line l).received = false := by
      rw [show (s.line l).received = [] from received]
      rfl
    have value : charValue (s.line l).bitOrder c.wire = c.wire := by
      rw [charValue_eq]
      exact if_pos order
    have keeps : (notedReply l s).keep 0xA6 = { noted with received := [0xA6], badReceptions := 0 } := by
      have empty : (notedReply l s).received = [] := received
      rw [ProbeLine.keep, empty]
      rfl
    rw [probeCharacter_opening state incomplete]
    refine ⟨fun bad few => ?_, fun bad many => ?_, fun good sync => ?_, fun good sync => ?_, fun good lsb msb => ?_⟩
    · rw [openingCharacter_bad bad, if_neg (Nat.not_le.2 few)]
      rfl
    · rw [openingCharacter_bad bad, if_pos many]
      rfl
    · rw [openingCharacter_first good received, value, sync, ← keeps]
      rfl
    · rw [openingCharacter_first good received, value, sync, keeps]
      rfl
    · rw [openingCharacter_first good received, value, if_neg lsb, if_neg msb]
      rfl
  · intro x value length incomplete noted
    have valued : charValue (s.line l).bitOrder c.wire = value := charValue_eq ..
    have taken (h : x.received.length = 1 ∨ incomplete) :
        exec (.probeCharacterReceived l c) s = .next (openingCharacter l c s) := by
      rw [exec_probeCharacter running, probeCharacter_opening state]
      refine replyComplete_eq_false fun ⟨two, whole⟩ => ?_
      rcases h with one | ⟨-, part⟩
      · have two : 2 ≤ x.received.length := two
        omega
      · exact part whole
    refine ⟨fun h bad => ?_, fun a received good => ?_, fun part good => ?_, fun two whole => ?_, reverseBits_getLsbD⟩
    · intro t
      rw [taken h, openingCharacter_bad bad]
      rfl
    · have keeps : (notedReply l s).keep value = { noted with received := [a, value], badReceptions := 0 } := by
        have one : (notedReply l s).received = [a] := received
        rw [ProbeLine.keep, one]
        rfl
      rw [taken (.inl (by rw [received]; rfl)), openingCharacter_second good received, valued, keeps]
      rfl
    · intro kept
      have ends : replyComplete (x.received ++ [value]) = true ↔ x.received.length + 1 = length + 3 :=
        replyComplete_append part.1 value
      rw [taken (.inr part), openingCharacter_later good part.1, valued]
      exact congrArg (fun y => Host.Outcome.next (s.setLine l y)) (if_congr ends rfl rfl)
    · have after := probeCharacter_after_reply c state ((replyComplete_iff _).2 ⟨two, whole⟩)
      have reset : (replyReceived l s).resetPin = false := ((Kept.refl s).replyReceived l).resetPin.trans running
      exact ⟨_, exec_openingReply running l, by rw [exec_probeCharacter running, exec_probeCharacter reset, after]⟩
  · intro x
    rw [exec_openingReply running]
    refine ⟨fun h => congrArg _ (replyReceived_other ?_), fun n kind serial3 serial2 serial1 serial0 age1 age0 speed guard check size
      sum vendor state hn received => ?_⟩
    · rcases h with h | h | h
      · exact .inl h
      · exact .inr (replyComplete_eq_false fun e => Nat.not_lt.2 e.1 h)
      · exact .inr (replyComplete_eq_false fun e => h e.2)
    · intro body age good
      let b : ReplyBytes := ⟨n, kind, serial3, serial2, serial1, serial0, age1, age0, speed, guard, check, size, vendor⟩
      have judged := judgeReply_eq (b := b) (sum := sum) (s := s) (l := l) hn received
      have in_range : good ↔ ¬(7 < speed.toNat ∨ 243 < guard.toNat ∨ 1 < check.toNat ∨ size.toNat < 16 ∨ 64 < size.toNat) := by
        simp only [good]
        omega
      rw [replyReceived_complete (b := b) state hn received]
      refine ⟨fun wrong => congrArg _ (judged.trans (if_pos wrong)), fun right out => congrArg _ ?_, fun right within => ?_⟩
      · exact judged.trans ((if_neg (not_not.2 right)).trans (if_pos (not_not.1 fun e => out (in_range.2 e))))
      · intro opened i hi
        have check_zero : check.toNat = 0 ↔ check = 0 := ⟨fun e => BitVec.eq_of_toNat_eq e, fun e => by rw [e]; rfl⟩
        have opens : judgeReply l s = openedReport l age opened := by
          refine (judged.trans ((if_neg (not_not.2 right)).trans (if_neg (in_range.1 within)))).trans ?_
          have mode : (if b.check.toNat = 0 then CheckMode.lrc else .crc) = if check = 0 then .lrc else .crc :=
            if_congr check_zero rfl rfl
          rw [mode]
          rfl
        have report := openedReport_of_inspection (s := opened) (l := l) hi age
        refine ⟨fun young => congrArg _ ?_, fun old => congrArg _ ?_⟩
        · exact opens.trans (report.trans (if_neg (Nat.not_lt.2 young)))
        · exact opens.trans (report.trans (if_pos old))
  · intro x value size whole noted
    have valued : charValue (s.line l).bitOrder c.wire = value := charValue_eq ..
    have taken (state : x.state = .receiving) (h : x.badLength = true ∨ ¬whole x.received) :
        exec (.probeCharacterReceived l c) s = .next (blockCharacter l c s) := by
      rw [exec_probeCharacter running, probeCharacter_receiving state (blockComplete_eq_false h)]
    refine ⟨fun state => ?_, fun state part bad => ?_, fun state long good => ?_, fun state fits part good => ?_,
      fun state fits complete => ?_⟩
    · rw [exec_probeCharacter running, probeCharacter_firstOfBlock state]
      exact (exec_probeCharacter (s := s.modLine l ProbeLine.beginBlock) running l c).symm
    · intro t
      rw [taken state part, blockCharacter_bad bad]
      rfl
    · rw [taken state (.inl long), blockCharacter_good good]
      exact congrArg (fun y => Host.Outcome.next (s.setLine l y)) (if_pos long)
    · intro bytes kept tooLong
      have keeps : (notedBlock l s).keep value = kept := rfl
      have placed : exec (.probeCharacterReceived l c) s
          = .next (s.setLine l
              (if kept.received.length = 3 ∧ (64 < (kept.received.getD 2 0).toNat ∨ kept.maxLength < (kept.received.getD 2 0).toNat)
              then { kept with badLength := true }
              else if kept.blockComplete then { kept with timers := { kept.timers with charWait := none } }
              else kept)) := by
        rw [taken state (.inr part), blockCharacter_good good, valued, keeps]
        refine congrArg (fun y => Host.Outcome.next (s.setLine l y)) (if_neg ?_)
        exact fun e => Bool.false_ne_true (fits.symm.trans e)
      have third (h : bytes.length = 3) : bytes.getD 2 0 = value := by
        have counted : x.received.length + 1 = 3 := List.length_append.symm.trans h
        have two : x.received.length = 2 := Nat.succ.inj counted
        rw [List.getD_append_right _ _ _ _ (Nat.le_of_eq two), two]
        rfl
      have length : (kept.received.length = 3
          ∧ (64 < (kept.received.getD 2 0).toNat ∨ kept.maxLength < (kept.received.getD 2 0).toNat)) ↔ tooLong :=
        and_congr_right fun h => by
          show 64 < (bytes.getD 2 0).toNat ∨ x.maxLength < (bytes.getD 2 0).toNat ↔ _
          rw [third h]
      have complete : kept.blockComplete = true ↔ whole bytes := (blockComplete_iff kept).trans (and_iff_right fits)
      rw [placed]
      refine ⟨fun long => ?_, fun short incomplete => ?_, fun short ends => ?_⟩
      · rw [if_pos (length.2 long)]
      · rw [if_neg (fun e => short (length.1 e)), if_neg (fun e => incomplete (complete.1 e))]
      · rw [if_neg (fun e => short (length.1 e)), if_pos (complete.2 ends)]
    · have after := probeCharacter_after_block c state ((blockComplete_iff x).2 ⟨fits, complete⟩)
      have reset : (blockReceived l s).resetPin = false := ((Kept.refl s).blockReceived l).resetPin.trans running
      exact ⟨_, exec_blockReceived running l, by rw [exec_probeCharacter running, exec_probeCharacter reset, after]⟩

end Sys2Proof.Machine
end

section
/-! A block's judgement and an exchange's data (R132, R135 to R137, R148, R149). -/

namespace Sys2Proof.Machine

open Sys2Proof (Byte Comp Tanker Bay Chan RecipeSlot CargoClass Line Lane Port)

variable {l : Line} {s : State}

/-! ## The rows of the judgement (R135) -/

/-- A complete block by its route, control, data and check (R132, R135). -/
theorem judgeBlock_eq {route control : Byte} {data check : List Byte} (short : data.length ≤ 64)
    (received : (s.line l).received = [route, control, byte data.length] ++ data ++ check) :
    judgeBlock l s
      = if blockCheck (s.line l).checkMode ([route, control, byte data.length] ++ data) ≠ check then badBlock l s
        else if route ≠ 2 ∨ (control ≠ controlInfo ∧ control ≠ controlRepeat ∧ control ≠ controlWait) then linkError l .protocol s
        else if control = controlRepeat then
          if data.length ≠ 0 then linkError l .protocol s else repeatWith l (s.line l).exchange.lastBlock s
        else if control = controlWait then
          if data.length ≠ 1 ∨ data.getD 0 0 = 0 ∨ 15 < (data.getD 0 0).toNat then linkError l .protocol s
          else extendWait l (data.getD 0 0) s
        else exchangeDone l data (s.setLine l { s.line l with state := .ready, received := [] }) := by
  have length : (byte data.length).toNat = data.length := toNat_byte_of_lt (by omega)
  have third : (([route, control, byte data.length] ++ data ++ check).getD 2 0).toNat = data.length := length
  have size : ([route, control, byte data.length] ++ data).length = data.length + 3 := by
    rw [List.length_append]
    exact Nat.add_comm ..
  have covered : ([route, control, byte data.length] ++ data ++ check).take (data.length + 3) = [route, control, byte data.length] ++ data :=
    List.take_left' size
  have rest : ([route, control, byte data.length] ++ data ++ check).drop (data.length + 3) = check := List.drop_left' size
  have inner : ([route, control, byte data.length] ++ data).drop 3 = data := rfl
  unfold judgeBlock
  simp only [received, third, covered, rest, inner, State.modLine_eq]
  rfl

theorem blockReceived_complete (state : (s.line l).state = .receiving) (complete : (s.line l).blockComplete = true) :
    blockReceived l s = judgeBlock l s := if_pos ⟨state, complete⟩

theorem repeatWith_eq (l : Line) (block : List Byte) (s : State) :
    repeatWith l block s
      = if 2 ≤ (s.line l).exchange.repeats then linkError l .blockErrors s
        else
          s.setLine l
            ({ s.line l with
                exchange := { (s.line l).exchange with repeats := (s.line l).exchange.repeats + 1 } }.send block) := by
  by_cases h : 2 ≤ (s.line l).exchange.repeats
  · rw [if_pos h, repeatWith_last h]
  · rw [if_neg h, repeatWith_more (Nat.not_le.1 h)]

/-! ## The data of an exchange (R148, R149) -/

theorem measureAnswer?_good (f1 f0 t1 t0 c1 c0 d1 d0 : Byte) :
    measureAnswer? [0x21, f1, f0, t1, t0, c1, c0, d1, d0, 0]
      = some ⟨256 * f1.toNat + f0.toNat, 256 * t1.toNat + t0.toNat, 256 * c1.toNat + c0.toNat, 256 * d1.toNat + d0.toNat⟩ := rfl

theorem measureAnswer?_bad {data : List Byte}
    (h : ∀ f1 f0 t1 t0 c1 c0 d1 d0 : Byte, data ≠ [0x21, f1, f0, t1, t0, c1, c0, d1, d0, 0]) : measureAnswer? data = none := by
  unfold measureAnswer?
  split
  · next code f1 f0 t1 t0 c1 c0 d1 d0 status =>
    refine if_neg ?_
    rintro ⟨rfl, rfl⟩
    exact h f1 f0 t1 t0 c1 c0 d1 d0 rfl
  · rfl

theorem exchangeDone_measured {x : Inspection} {data : List Byte} {m : Measures} (hx : s.inspection l = some x)
    (hm : measureAnswer? data = some m) :
    exchangeDone l data s
      = if x.taken + 1 < x.toTake then
          measure l (s.setInspection l (some { x with taken := x.taken + 1, worst := x.worst.worse m }))
        else judgeInspection l { x with taken := x.taken + 1, worst := x.worst.worse m } s := by
  simp only [exchangeDone, hx, hm]

theorem judgeInspection_pass {x : Inspection} (failed : failedMeasures x.worst x.limits = [])
    (state : (s.comp x.comp).state = .inspecting) :
    judgeInspection l x s
      = finishInspection l x .pass
          (issueCertificate x.comp
            ((closeLine l none s).setComp x.comp { s.comp x.comp with readings := some ⟨x.worst, []⟩ })) := by
  have record : (closeLine l none s).comp x.comp = s.comp x.comp := comp_closeLine ..
  simp only [judgeInspection, failed, List.isEmpty_nil, if_true]
  rw [reportPass, if_pos (by rw [record]; exact state), State.modComp_eq, record]

theorem judgeInspection_fail {x : Inspection} (failed : failedMeasures x.worst x.limits ≠ [])
    (state : (s.comp x.comp).state = .inspecting) :
    judgeInspection l x s
      = finishInspection l x .fail
          (raiseNotice officePort 1 (x.comp.val + 1)
            ((closeLine l none s).setComp x.comp
              { s.comp x.comp with
                state := .held, readings := some ⟨x.worst, failedMeasures x.worst x.limits⟩, hold := some .inspectFail
                binding := none, cert := none })) := by
  have record : (closeLine l none s).comp x.comp = s.comp x.comp := comp_closeLine ..
  have some_ : ¬(failedMeasures x.worst x.limits).isEmpty = true := fun e => failed (List.isEmpty_iff.1 e)
  simp only [judgeInspection, if_neg some_]
  rw [reportFail, if_pos (by rw [record]; exact state), holdRecord, State.modComp_eq, State.modComp_eq, State.comp_setComp_self,
    State.setComp_setComp, record]
  rfl

/-- Settles O52: the rows of the judgement in order, and the inspection's use of the data. -/
theorem blockReceivedJudged : Obligations.BlockReceived := by
  refine ⟨fun l s running => ?_, fun l s x data hx => ⟨fun bad => ?_, fun f1 f0 t1 t0 c1 c0 d1 d0 good => ?_⟩⟩
  · intro x size whole
    have complete : x.blockComplete = true ↔ x.badLength = false ∧ whole := blockComplete_iff x
    rw [exec_blockReceived running]
    refine ⟨fun h => congrArg _ (blockReceived_other (h.imp_right blockComplete_eq_false)),
      fun route control data check state fits short length received => ?_⟩
    intro covered good sent again
    have counted : x.received.length = data.length + 3 + size := by
      rw [received, List.length_append, List.length_append, length]
      exact congrArg (· + size) (Nat.add_comm ..)
    have third : (x.received.getD 2 0).toNat = data.length := by
      rw [received]
      exact toNat_byte_of_lt (by omega)
    have isWhole : whole := ⟨by omega, by rw [third]; exact counted⟩
    have judged := (blockReceived_complete state (complete.2 ⟨fits, isWhole⟩)).trans (judgeBlock_eq short received)
    have checks : blockCheck x.checkMode covered ≠ check ↔ ¬good := not_congr eq_comm
    have repeats (block : List Byte) : repeatWith l block s = again block := repeatWith_eq l block s
    have rows (h : good) := judged.trans (if_neg (fun e => checks.1 e h))
    have known (h : good) (hr : route = 2) (hc : control = controlInfo ∨ control = controlRepeat ∨ control = controlWait) :=
      (rows h).trans (if_neg (not_or.2 ⟨not_not.2 hr, fun ⟨info, rep, wait⟩ => hc.elim info fun hc => hc.elim rep wait⟩))
    have waits (h : good) (hr : route = 2) (hc : control = 0x30) :=
      (known h hr (.inr (.inr hc))).trans ((if_neg (by rw [hc]; decide)).trans (if_pos hc))
    refine ⟨fun bad => ?_, fun h unknown => congrArg _ ((rows h).trans (if_pos unknown)), fun h hr hc some_ => ?_,
      fun h hr hc none => ?_, fun h hr hc wrong => ?_, fun f h hr hc one low high => ?_, fun h hr hc => ?_⟩
    · exact congrArg _ ((judged.trans (if_pos (checks.2 bad))).trans (repeats _))
    · refine congrArg _ ((known h hr (.inr (.inl hc))).trans ((if_pos hc).trans (if_pos ?_)))
      exact fun e => some_ (List.length_eq_zero_iff.1 e)
    · refine congrArg _ ((known h hr (.inr (.inl hc))).trans ((if_pos hc).trans ((if_neg ?_).trans (repeats _))))
      exact not_not.2 (List.length_eq_zero_iff.2 none)
    · refine congrArg _ ((waits h hr hc).trans (if_pos ?_))
      match data, wrong with
      | [], _ => exact .inl nofun
      | [f], wrong =>
        refine .inr ((wrong f rfl).imp_left fun e => ?_)
        exact BitVec.eq_of_toNat_eq e
      | _ :: _ :: _, _ => exact .inl (by simp)
    · intro echo
      have factor : data.getD 0 0 = f := by
        rw [one]
        rfl
      have good_ : ¬(data.length ≠ 1 ∨ data.getD 0 0 = 0 ∨ 15 < (data.getD 0 0).toNat) := by
        rw [factor, one]
        rintro (e | e | e)
        · exact e rfl
        · rw [e] at low
          exact absurd low (by decide)
        · exact Nat.not_lt.2 high e
      refine congrArg _ ((waits h hr hc).trans ((if_neg good_).trans ?_))
      rw [factor]
      rfl
    · refine congrArg _ ((known h hr (.inl hc)).trans ((if_neg ?_).trans (if_neg ?_)))
      · rw [hc]
        decide
      · rw [hc]
        decide
  · rw [exchangeDone, hx]
    dsimp only
    rw [measureAnswer?_bad bad]
  · intro worst y failed closed
    have measured := exchangeDone_measured hx (good ▸ measureAnswer?_good f1 f0 t1 t0 c1 c0 d1 d0)
    refine ⟨fun more => measured.trans (if_pos more), fun last state => ?_⟩
    have judged : exchangeDone l data s = judgeInspection l y s := measured.trans (if_neg (Nat.not_lt.2 last))
    refine ⟨fun none => judged.trans (judgeInspection_pass none state), fun some_ => judged.trans (judgeInspection_fail some_ state)⟩

end Sys2Proof.Machine
end

section
/-! AUTHORIZE_FILL (R162, R163). -/

namespace Sys2Proof.Machine

open Sys2Proof (Byte Comp Tanker Bay Chan RecipeSlot CargoClass Line Lane Port)

theorem productSuits_iff (s : State) (x : Option Certificate) (c : CargoClass) :
    productSuits s x c = true ↔ ∃ y : Certificate, x = some y ∧ (c = y.clearedClass ∨ s.cell y.clearedClass c = .none) := by
  rw [productSuits, Option.any_eq_true]
  simp only [Bool.or_eq_true, decide_eq_true_eq]

/-- AUTHORIZE_FILL of a named lane, record and product, its checks in order (R162). -/
theorem ownAuthorizeFill_named {r : Request} {s : State} {k n p v0 v1 : Byte} {l : Lane} {i : Comp} {c : CargoClass}
    (hp : r.payload = [k, n, p, v0, v1]) (isOpen : s.yardOpen = true) (hk : Names k l) (hn : Names n i) (hc : p.toNat = c.val)
    (some_ : c ≠ 0) :
    ownAuthorizeFill r s
      = if (s.lane l).state ≠ .idle then refuse .busy s
        else if (s.comp i).state = .free then refuse .noSuch s
        else if (s.comp i).state ≠ .cleared ∨ parkedBay i s ≠ none then refuse .wrongState s
        else if (s.lane l).arm = false then refuse .notReady s
        else if ¬∃ x : Certificate, (s.comp i).cert = some x ∧ (c = x.clearedClass ∨ s.cell x.clearedClass c = .none) then
          refuse .classMismatch s
        else if ¬(1 ≤ v0.toNat + 256 * v1.toNat ∧ v0.toNat + 256 * v1.toNat ≤ (s.comp i).capacity) then refuse .badArg s
        else accept [] (authorize l ⟨i, c, v0.toNat + 256 * v1.toNat⟩ s) := by
  have parked : (parkedBay i s).isSome = true ↔ parkedBay i s ≠ none := Option.isSome_iff_ne_none
  have unarmed : (!(s.lane l).arm) = true ↔ (s.lane l).arm = false := by rw [Bool.not_eq_true']
  have unsuited : (!productSuits s (s.comp i).cert c) = true
      ↔ ¬∃ x : Certificate, (s.comp i).cert = some x ∧ (c = x.clearedClass ∨ s.cell x.clearedClass c = .none) := by
    rw [Bool.not_eq_true', ← Bool.not_eq_true, productSuits_iff]
  rw [ownAuthorizeFill, whenOpen_of_open isOpen]
  simp only [hp, index?_of_names hk, index?_of_names hn, class1?_of_toNat hc some_, parked, unarmed, unsuited]
  rfl

theorem ownAuthorizeFill_badArg {r : Request} {s : State} {k n p v0 v1 : Byte} (hp : r.payload = [k, n, p, v0, v1])
    (isOpen : s.yardOpen = true) (h : NamesNone 2 k ∨ NamesNone 96 n ∨ p.toNat = 0 ∨ 31 < p.toNat) :
    ownAuthorizeFill r s = refuse .badArg s := by
  have none : index? 2 k.toNat = none ∨ index? 96 n.toNat = none ∨ class1? p = none :=
    h.imp index?_of_namesNone fun h => h.imp index?_of_namesNone class1?_eq_none
  rw [ownAuthorizeFill, whenOpen_of_open isOpen]
  simp only [hp]
  split
  · next hk hn hc =>
    rw [hk, hn, hc] at none
    simp at none
  · rfl

/-- Settles O53: the checks in order, and the lane and the record of a fill begun. -/
theorem authorizeFill : Obligations.AuthorizeFill := by
  refine ⟨fun r s k n p v0 v1 hasked hp => ⟨fun closed => ?_, fun isOpen bad => ?_, fun l i c isOpen hk hn hc some_ => ?_⟩,
    fun r s k n p v0 v1 l i c x hasked hp isOpen hk hn hc some_ idle cleared unparked arm cert suits => ?_⟩
  · exact takeRequest_refused hasked.1 hasked.2 (whenOpen_of_closed (s := s.taking .authorizeFill r) closed _)
  · exact takeRequest_refused hasked.1 hasked.2 (ownAuthorizeFill_badArg (s := s.taking .authorizeFill r) hp isOpen bad)
  · intro busy free wrong suits volume
    have named := ownAuthorizeFill_named (s := s.taking .authorizeFill r) hp isOpen hk hn hc some_
    have refused {x : ResultCode} (h : ownAuthorizeFill r (s.taking .authorizeFill r) = refuse x (s.taking .authorizeFill r)) :
        exec (.authorizeFill r) s = .next (s.answered .authorizeFill r x []) := takeRequest_refused hasked.1 hasked.2 h
    have present (b : ¬busy) (f : ¬free) := named.trans ((if_neg b).trans (if_neg f))
    have armed (b : ¬busy) (f : ¬free) (w : ¬wrong) (a : (s.lane l).arm = true) :=
      (present b f).trans ((if_neg w).trans (if_neg fun e => Bool.false_ne_true (e.symm.trans a)))
    refine ⟨fun b => refused (named.trans (if_pos b)), fun b f => refused (named.trans ((if_neg b).trans (if_pos f))),
      fun b f w => refused ((present b f).trans (if_pos w)),
      fun b f w a => refused ((present b f).trans ((if_neg w).trans (if_pos a))),
      fun b f w a u => refused ((armed b f w a).trans (if_pos u)),
      fun b f w a u out => refused ((armed b f w a).trans ((if_neg (not_not.2 u)).trans (if_pos ?_)))⟩
    rintro ⟨low, high⟩
    exact out.elim (Nat.one_le_iff_ne_zero.1 low) (Nat.not_lt.2 high)
  · intro volume low high
    have free : (s.comp i).state ≠ .free := by
      rw [cleared]
      exact nofun
    have own : ownAuthorizeFill r (s.taking .authorizeFill r)
        = accept [] (authorize l ⟨i, c, volume⟩ (s.taking .authorizeFill r)) :=
      (ownAuthorizeFill_named (s := s.taking .authorizeFill r) hp isOpen hk hn hc some_).trans
        ((if_neg (not_not.2 idle)).trans ((if_neg free).trans ((if_neg (not_or.2 ⟨not_not.2 cleared, not_not.2 unparked⟩)).trans
          ((if_neg fun e => Bool.false_ne_true (e.symm.trans arm)).trans ((if_neg (not_not.2 ⟨x, cert, suits⟩)).trans
            (if_neg (not_not.2 ⟨low, high⟩)))))))
    refine (takeRequest_accepted hasked own).trans ?_
    rw [← answering_taking]
    rfl

end Sys2Proof.Machine
end

section
/-! Fills end (R161, R164 to R170). -/

namespace Sys2Proof.Machine

open Sys2Proof (Byte Comp Tanker Bay Chan RecipeSlot CargoClass Line Lane Port)

theorem State.setLane_setLane (s : State) (l : Lane) (x y : FillLane) : (s.setLane l x).setLane l y = s.setLane l y := by
  simp only [State.setLane, put_put_self]

theorem valveOpen_iff {s : State} (running : s.resetPin = false) (l : Lane) :
    valveOpen s l = true ↔ (s.lane l).state = .active := by
  rw [valveOpen, running, Bool.not_false, Bool.true_and, decide_eq_true_iff]

/-! ## The causes of valve close (R166) -/

theorem closeLane_active {l : Lane} {s : State} (h : (s.lane l).state = .active) (cause : FillOutcome) :
    closeLane l cause s = s.setLane l ((s.lane l).closeValve cause (s.setting .settleTime)) := by
  rw [closeLane, if_pos h, State.modLane_eq]

/-- A lane whose record has just been changed closes its valve. -/
theorem closeLane_setLane {l : Lane} {s : State} {x : FillLane} (h : x.state = .active) (cause : FillOutcome) :
    closeLane l cause (s.setLane l x) = s.setLane l (x.closeValve cause (s.setting .settleTime)) := by
  rw [closeLane_active (by rw [State.lane_setLane_self]; exact h), State.lane_setLane_self, State.setLane_setLane]
  rfl

theorem closeLane_other {l : Lane} {s : State} (h : (s.lane l).state ≠ .active) (cause : FillOutcome) : closeLane l cause s = s :=
  if_neg h

/-! ## A meter pulse (R164) -/

theorem meterPulse_idle {l : Lane} {s : State} (h : (s.lane l).state = .idle) : meterPulse l s = s := by
  simp only [meterPulse, h]

theorem meterPulse_settling {l : Lane} {s : State} (h : (s.lane l).state = .settling) :
    meterPulse l s = s.setLane l { s.lane l with counter := countUp 65535 (s.lane l).counter } := by
  simp only [meterPulse, h, State.modLane_eq]
  rw [← h]
  rfl

theorem meterPulse_active {l : Lane} {s : State} (h : (s.lane l).state = .active) :
    meterPulse l s
      = if (s.lane l).compare ≤ countUp 65535 (s.lane l).counter then
          closeLane l .complete
            (s.setLane l { s.lane l with counter := countUp 65535 (s.lane l).counter, noFlow := 0, noFlowDue := false })
        else s.setLane l { s.lane l with counter := countUp 65535 (s.lane l).counter, noFlow := 0, noFlowDue := false } := by
  simp only [meterPulse, h, State.modLane_eq]
  rw [← h]
  rfl

/-! ## STOP_FILL (R168) -/

theorem ownStopFill_named {r : Request} {k : Byte} {l : Lane} (hp : r.payload = [k]) (hk : Names k l) (s : State) :
    ownStopFill r s
      = if (s.lane l).state = .active then accept [] (closeLane l .stopped s) else refuse .wrongState s := by
  simp only [ownStopFill, hp, nameLane, index?_of_names hk]

/-! ## The end of SETTLING (R14, R170) -/

/-- A lane at rest after a fill (R170). -/
def FillLane.rested (x : FillLane) (o : FillOutcome) : FillLane :=
  { x with state := .idle, context := none, cause := none, lastOutcome := some o, settle := 0, settleTime := 0 }

theorem endFill_eq {l : Lane} {s : State} {c : FillContext} {o : FillOutcome} (hc : (s.lane l).context = some c)
    (ho : (s.lane l).cause = some o) (filling : (s.comp c.comp).state = .filling) :
    endFill l s
      = raiseNotice fillPort 1 (l.val + 1)
          (if 0 < (s.lane l).counter then
            raiseNotice officePort 4 (c.comp.val + 1)
              ((s.setLane l ((s.lane l).rested o)).setComp c.comp
                { s.comp c.comp with state := .filled, fill := some ⟨l, c.product, c.volume, (s.lane l).counter, o⟩ })
          else (s.setLane l ((s.lane l).rested o)).setComp c.comp { s.comp c.comp with state := .cleared }) := by
  have reported : reportFill l c (s.lane l).counter o s
      = if 0 < (s.lane l).counter then
          raiseFilled c.comp
            (s.setComp c.comp
              { s.comp c.comp with state := .filled, fill := some ⟨l, c.product, c.volume, (s.lane l).counter, o⟩ })
        else s.setComp c.comp { s.comp c.comp with state := .cleared } := if_pos filling
  unfold endFill
  simp only [hc, ho, reported]
  split <;> rfl

/-- Settles O54: the pulse and the four causes by the lane's state, and the report at the end of SETTLING. -/
theorem fillEnds : Obligations.FillEnds := by
  refine ⟨fun l s running => ?_, fun l s running => ?_⟩
  · intro x closed n
    have pulse : exec (.laneMeterPulse l) s = .next (meterPulse l s) := live_of_running running (meterPulse l)
    refine ⟨valveOpen_iff running l, fun state => ?_, fun state => ?_, fun state below => ?_, fun state enough => ?_, ?_, ?_, rfl,
      fun r k hasked hp => ⟨fun hk => ?_, fun hk state => ?_, fun hk state => ?_⟩⟩
    · rw [pulse, meterPulse_idle state]
    · rw [pulse, meterPulse_settling state]
      rfl
    · rw [pulse, meterPulse_active state]
      exact congrArg _ (if_neg (Nat.not_le.2 below))
    · rw [pulse, meterPulse_active state, closeLane_setLane (by exact state)]
      exact congrArg _ (if_pos enough)
    · refine (live_of_running running (noFlowOut l)).trans (congrArg _ ?_)
      by_cases due : x.noFlowDue = true
      · rw [noFlowOut, if_pos due]
        exact if_congr (and_iff_left due).symm rfl rfl
      · rw [noFlowOut, if_neg due, if_neg fun e => due e.2]
    · refine (next_of_running running).trans (congrArg _ ?_)
      by_cases state : x.state = .active
      · rw [if_pos state, setArm, State.modLane_eq, closeLane_setLane (by exact state)]
        rfl
      · rw [if_neg state, setArm, State.modLane_eq, closeLane_other]
        rw [State.lane_setLane_self]
        exact state
    · refine takeRequest_refused hasked.1 hasked.2 ?_
      simp only [ownStopFill, hp, nameLane, index?_of_namesNone hk]
    · exact takeRequest_refused hasked.1 hasked.2 ((ownStopFill_named hp hk _).trans (if_neg state))
    · have own := (ownStopFill_named hp hk (s.taking .stopFill r)).trans (if_pos state)
      refine (takeRequest_accepted hasked own).trans ?_
      rw [closeLane_active (s := s.taking .stopFill r) state, ← answering_taking]
      rfl
  · intro x
    have expiry : exec (.settleExpiry l) s = .next (settleOut l s) := live_of_running running (settleOut l)
    refine ⟨fun h => ?_, fun c o state time hc ho filling => ?_⟩
    · rw [expiry, settleOut, if_neg]
      rintro ⟨state, time⟩
      exact h.elim (absurd state) (Nat.not_lt.2 time)
    · intro rest
      have ends : settleOut l s = endFill l s := if_pos ⟨state, time⟩
      rw [expiry, ends, endFill_eq hc ho filling]
      refine ⟨fun empty => ?_, fun some_ => ?_⟩
      · rw [if_neg (by rw [show (s.lane l).counter = 0 from empty]; exact Nat.lt_irrefl 0)]
        rfl
      · rw [if_pos (by exact some_)]
        rfl

end Sys2Proof.Machine
end
